-- ==== Sys2Proof/Word.lean ====
section
/-! DEFINITION. The words of the block: a byte, a nibble, one row of cells and one Frame.

00_scope.md rules R3, R262 and 10_state.md rule R11: a byte is 8 bits, unsigned, bit 7 the most significant; a row is
18 bytes; a Frame is 8 rows. The dimensions stand in the types, so that a partly filled Frame cannot be written down
(R11: "never partially populated"). -/

namespace Sys2Proof

/-- Eight bits, unsigned (R262). -/
abbrev Byte := BitVec 8

/-- Half a byte, the value of one hex character (30_encoding.md rule R71). -/
abbrev Nibble := BitVec 4

/-- One row of a Frame: `B = 18` bytes (R3, R11); byte 0 is the first one shifted out (20_memory.md rule R43). -/
abbrev Row := Vector Byte 18

/-- A Frame: `R = 8` rows (R3, R11); `F[r][b]` is byte `b` of row `r` (R262). -/
abbrev Frame := Vector Row 8

end Sys2Proof
end

