-- ==== Sys2Proof/Config.lean ====
section
/-! DEFINITION. What is fixed for one machine: the geometry, the parameters of 00_scope.md rule R5, and the FREE values
the spec leaves open.

A free value is an opaque constant: nothing in Lean can evaluate it, so a claim that holds, holds for every value of it.
Each is applied to a plain counter or to the operands it depends on. -/

namespace Sys2Proof

/-- What DECODE does with a non-hex character (00_scope.md rule R5, 40_frame_decoder.md rule R105, 93 U1): reject the
payload, or draw an arbitrary nibble for the character. -/
inductive NonHex where
  | reject
  | draw
  deriving DecidableEq, Repr

/-- The implementation parameters of 00_scope.md rule R5: constants of one machine, never run-time state (R3, R19, R27).
The defaults are the values the spec's table gives "for this hardware". -/
structure Config where
  /-- `DWELL`: ticks one row is dwelt on (the source's placeholder "2000 time-units"; the unit is 92 D14). -/
  dwell : Nat := 2000
  /-- `T_SETUP`: ticks DATA is held before CLK rises. -/
  tSetup : Nat := 1
  /-- `T_CLKH`: ticks CLK stays high. -/
  tClkh : Nat := 1
  /-- `T_CLKL`: ticks CLK stays low. -/
  tClkl : Nat := 1
  /-- `T_BLANK`: ticks from BLANK rising to the row-select write. -/
  tBlank : Nat := 1
  /-- `T_SEL`: ticks from the row-select write to LATCH rising. -/
  tSel : Nat := 1
  /-- `T_LATCH`: ticks LATCH stays asserted. -/
  tLatch : Nat := 1
  /-- `T_REL`: ticks from LATCH falling to BLANK falling. -/
  tRel : Nat := 1
  /-- `ROW_RESET`: reset value of the Row Index (10_state.md rule R17, 92 D6). -/
  rowReset : BitVec 3 := 7
  /-- `INIT_FRAME`: the diagonal test pattern, `INIT_FRAME[r][0] = 1 << r`, every other byte 0 (10_state.md rule R13,
  92 D7). -/
  initFrame : Frame := Vector.ofFn fun r => Vector.ofFn fun b => if b.val = 0 then BitVec.ofNat 8 (2 ^ r.val) else 0
  /-- `NONHEX`: `reject` for this hardware (92 D17). -/
  nonhex : NonHex := .reject
  deriving DecidableEq, Repr

namespace Config

/-- The hardware of this spec: every parameter at the value rule R5 gives it. -/
def hardware : Config := {}

/-! ### Geometry (R3, R4)

`FRAME_BYTES` and `rowBits` are both 144 only because `R` equals the number of bits in a byte (R4). -/

/-- `R`, rows of a Frame (R3). -/
abbrev rows : Nat := 8
/-- `B`, bytes of a row (R3). -/
abbrev rowBytes : Nat := 18
/-- `NSEL`, row-select lines (R3). -/
abbrev selectLines : Nat := 3
/-- `FRAME_BYTES = R*B` (R4). -/
abbrev frameBytes : Nat := rows * rowBytes
/-- `FRAME_BITS = 8*R*B` (R4). -/
abbrev frameBits : Nat := 8 * rows * rowBytes
/-- `ROW_BITS = 8*B` (R4): data and clock pulse pairs of one row. -/
abbrev rowBits : Nat := 8 * rowBytes
/-- `PAYLOAD_CHARS = 2*R*B` (R4): characters DECODE reads. -/
abbrev payloadChars : Nat := 2 * rows * rowBytes
/-- `ROW_CHARS = 2*B` (R4). -/
abbrev rowChars : Nat := 2 * rowBytes

/-! ### Free values (no body: nothing constrains them) -/

/-- FREE. What `PND` holds after the `n`-th draw, made at every reset (10_state.md rule R14: "A model takes any value
(a free input at reset), not zero"; 92 D21; 93 U7). Log entry 2. -/
opaque freeFrame : Nat → Frame

/-- FREE. The acknowledgement bytes READ returns at the `n`-th draw (44_device_interface.md rule R183: "an arbitrary byte
string (a free input)"; 92 D25; 93 U8). Log entry 3. -/
opaque freeBytes : Nat → List Byte

/-- FREE. The nibble that the non-hex character number `k` decodes to at the `n`-th draw, read only under
`NonHex.draw` (40_frame_decoder.md rule R105; 93 U1). Log entry 4. -/
opaque freeNibble : Nat → Nat → Nibble

/-- FREE. The cell SHIFT_DATA presents for a bit count past the row's 144 cells, a state no run reaches (10_state.md rule
R21, 70_reset_and_hazards.md rule R250). Log entry 5. -/
opaque freeCell : BitVec 8 → Bool

end Config
end Sys2Proof
end

