-- ==== Sys2Proof/Syntax.lean ====
section
/-! DEFINITION. The operations of the block, whole (30_encoding.md rule R84: "the closed set of 21 below; there is no
other"), the sequencer positions, the encoded forms an operation arrives in, and the lines of a stimulus script. -/

namespace Sys2Proof

/-- One constructor per row of spec/opcode_table.json (R84). The operand of DEPOSIT is a Frame (format F); the operand of
WRITE and of DECODE is the payload, a list of characters as bytes whose length is the spec's `L` (40_frame_decoder.md
rule R101: "`L >= 0`, their number"). Every other operation has no operand. -/
inductive Instr where
  /-- START, host (43 R146). -/
  | start
  /-- STOP, host (43 R147). -/
  | stop
  /-- DEPOSIT of a Frame, producer (41 R116). -/
  | deposit (frame : Frame)
  /-- IDLE, scanner (43 R149). -/
  | idle
  /-- CHECK, scanner (43 R150). -/
  | check
  /-- TAKE, scanner (41 R120). -/
  | take
  /-- ADVANCE, scanner (43 R152). -/
  | advance
  /-- SHIFT_DATA, scanner (42 R131). -/
  | shiftData
  /-- SHIFT_CLKH, scanner (42 R132). -/
  | shiftClkh
  /-- SHIFT_CLKL, scanner (42 R133). -/
  | shiftClkl
  /-- BLANK_ON, scanner (43 R153). -/
  | blankOn
  /-- SELECT, scanner (43 R154). -/
  | select
  /-- LATCH_ON, scanner (43 R155). -/
  | latchOn
  /-- LATCH_OFF, scanner (43 R156). -/
  | latchOff
  /-- BLANK_OFF, scanner (43 R157). -/
  | blankOff
  /-- DWELL, scanner (43 R158). -/
  | dwell
  /-- OPEN, boundary call (44 R182). -/
  | devOpen
  /-- READ, boundary call (44 R183). -/
  | devRead
  /-- WRITE of a payload, boundary call (44 R184). -/
  | devWrite (payload : List Byte)
  /-- CLOSE, boundary call (44 R185). -/
  | devClose
  /-- DECODE of a payload, boundary function (40 R102). -/
  | frameDecode (payload : List Byte)
  deriving DecidableEq, Repr

/-- The sequencer position `PH`: the thirteen micro-operations of 30_encoding.md rule R86. The three reserved codes are
left out (R91: "A model represents `PH` by an enumeration that lacks them"). -/
inductive Phase where
  | idle | check | take | advance | shiftData | shiftClkh | shiftClkl
  | blankOn | select | latchOn | latchOff | blankOff | dwell
  deriving DecidableEq, Repr

/-- An operation as it arrives at the block, one constructor per format of 30_encoding.md: the format is known from
WHERE the bits stand (request ports, sequencer register, device call, payload), not from the bits. -/
inductive OpWord where
  /-- Format X: the request vector and the Frame port (R85, R73). -/
  | x (xreq : BitVec 3) (depFrame : BitVec 1152)
  /-- Format S: the sequencer position code (R86). -/
  | s (ph : BitVec 4)
  /-- Format D: the device-call code and the payload handed over with it (R87). -/
  | d (dop : BitVec 2) (payload : List Byte)
  /-- Format P: the payload alone; DECODE has no code (R88). -/
  | p (payload : List Byte)
  deriving DecidableEq, Repr

/-- The seven output lines the host acquires at bring-up (70_reset_and_hazards.md rule R226, 10_state.md rule R24). -/
inductive PinLine where
  | data | clk | a0 | a1 | a2 | latch | blank
  deriving DecidableEq, Repr

/-- One bring-up attempt of the host (R226): the order in which it acquires the lines (in no source: a parameter, 93 U17),
which acquisition (counted from 0), if any, the environment refuses, and whether the scan loop can be started. -/
structure BringUp where
  order      : List PinLine
  refused    : Option Nat
  taskStarts : Bool
  deriving DecidableEq, Repr

/-- The input ports sampled at one tick (30_encoding.md rule R90): `rst`, the request vector
(`start_req`, `stop_req`, `dep_valid` in bits 0, 1, 2; R85) and `dep_frame`. -/
structure Ports where
  rst      : Bool
  xreq     : BitVec 3
  depFrame : BitVec 1152
  deriving DecidableEq, Repr

/-- Whether, in this tick, each synchroniser lets the flag across (10_state.md rule R28, 20_memory.md rule R55). Both
true in every tick is the block with one clock: no lag. -/
structure SyncPass where
  toScanner  : Bool
  toProducer : Bool
  deriving DecidableEq, Repr

/-- No lag: both synchronisers pass. -/
def SyncPass.oneClock : SyncPass := { toScanner := true, toProducer := true }

/-- One line of a stimulus script: which agent moves next, and with what (00_scope.md rule R6, 30_encoding.md rule R98;
a script "fixes one interleaving of the three agents"). -/
inductive Event where
  /-- The scanner executes its next micro-operation. -/
  | scan
  /-- The host or the producer presents the request vector at the ports. -/
  | request (xreq : BitVec 3) (depFrame : BitVec 1152)
  /-- The producer makes a boundary call. -/
  | call (dop : BitVec 2) (payload : List Byte)
  /-- The producer runs DECODE alone on a payload. -/
  | text (payload : List Byte)
  /-- The `k`-th held producer call takes its step, if the slot is empty (R57: any of the held callers may be next). -/
  | resume (k : Nat)
  /-- The `k`-th held producer drops its request (41 R117: "its own business"). -/
  | withdraw (k : Nat)
  /-- Reset is applied (70 R220). -/
  | reset
  /-- One tick of `clk` at the tick level: the sampled ports and what the synchronisers do (R7, R200, R240). -/
  | tick (ports : Ports) (pass : SyncPass)
  /-- The host's bring-up sequence (70 R226). -/
  | bringUp (plan : BringUp)
  /-- The last step of the host's teardown: release every line (70 R227). -/
  | release
  deriving DecidableEq, Repr

end Sys2Proof
end

