-- ==== Sys2Proof/WellFormed.lean ====
section
/-! DEFINITION. Which terms of the syntax are meaningful.

The types carry most of it: every Frame is legal, every request and every device-call code has a meaning
(30_encoding.md rule R94), and any bytes may be handed to WRITE and DECODE (the error they meet is their RESULT, not an
ill-formed instruction). What is left to check: reserved position codes, a request vector that presents nothing, a
bring-up plan that is no order of the seven lines, a configuration with a hold of zero ticks. -/

namespace Sys2Proof

/-- Every instruction the syntax can write down is well formed (R94); one line per constructor, so that a new one must
decide. -/
def Instr.wf : Instr → Bool
  | .start => true
  | .stop => true
  | .deposit _ => true
  | .idle => true
  | .check => true
  | .take => true
  | .advance => true
  | .shiftData => true
  | .shiftClkh => true
  | .shiftClkl => true
  | .blankOn => true
  | .select => true
  | .latchOn => true
  | .latchOff => true
  | .blankOff => true
  | .dwell => true
  | .devOpen => true
  | .devRead => true
  | .devWrite _ => true
  | .devClose => true
  | .frameDecode _ => true

/-- An encoded word that names an operation: a request vector presents at least one request (R85: `0b000` is "no
request"), a position code is one of 0..12 (R91: 13, 14, 15 are reserved). -/
def OpWord.wf : OpWord → Bool
  | .x xreq _ => xreq != 0
  | .s ph => ph.toNat ≤ 12
  | .d _ _ => true
  | .p _ => true

/-- A bring-up plan acquires each of the seven lines exactly once, in some order (R226), and the refused acquisition, if
any, is one of the seven. -/
def BringUp.wf (b : BringUp) : Bool :=
  b.order.length == 7 && decide b.order.Nodup && (match b.refused with | none => true | some k => decide (k < 7))

/-- Every hold is at least one tick (00_scope.md rule R5, 70_reset_and_hazards.md rule R240). -/
def Config.wf (c : Config) : Bool :=
  decide (1 ≤ c.dwell) && decide (1 ≤ c.tSetup) && decide (1 ≤ c.tClkh) && decide (1 ≤ c.tClkl) &&
    decide (1 ≤ c.tBlank) && decide (1 ≤ c.tSel) && decide (1 ≤ c.tLatch) && decide (1 ≤ c.tRel)

end Sys2Proof
end

