-- ==== Sys2Proof/Decode.lean ====
section
/-! DEFINITION. From the encoded forms of 30_encoding.md to an operation, and back.

`decode` is total and rejects by name; `encode` is written from the same tables. `packFrame` and `unpackFrame` are
format F (R73), the positions are format S (R86), the request vector is format X (R85), the device calls format D (R87),
the payload format P (R70, R88). -/

namespace Sys2Proof

/-! ### Format F, the Frame word -/

/-- The bytes of a Frame in row-major order: byte `off = 18*r + b` is `F[r][b]` (20_memory.md rule R41). -/
def frameBytesOf (f : Frame) : List Byte := f.toList.flatMap fun row => row.toList

/-- Format F (R73, R44): byte `off` of the Frame stands in bits `8*off+7 : 8*off` of `dep_frame[1151:0]`. -/
def packFrame (f : Frame) : BitVec 1152 :=
  BitVec.ofNat 1152 ((frameBytesOf f).foldr (fun v acc => acc * 256 + v.toNat) 0)

/-- The Frame that a `dep_frame` word carries: byte `F[r][b]` is the word's eight bits from bit `8*(18*r+b)` up (R73). -/
def unpackFrame (w : BitVec 1152) : Frame :=
  Vector.ofFn fun r => Vector.ofFn fun b => w.extractLsb' (8 * (18 * r.val + b.val)) 8

/-! ### Format S, the sequencer position -/

/-- The 4-bit code of a position (R86). -/
def positionCode : Phase → BitVec 4
  | .idle => 0
  | .check => 1
  | .take => 2
  | .advance => 3
  | .shiftData => 4
  | .shiftClkh => 5
  | .shiftClkl => 6
  | .blankOn => 7
  | .select => 8
  | .latchOn => 9
  | .latchOff => 10
  | .blankOff => 11
  | .dwell => 12

/-- The position of a code; none for the reserved codes 13, 14, 15 (R86, R91). -/
def positionOf (code : BitVec 4) : Option Phase :=
  match code.toNat with
  | 0 => some .idle
  | 1 => some .check
  | 2 => some .take
  | 3 => some .advance
  | 4 => some .shiftData
  | 5 => some .shiftClkh
  | 6 => some .shiftClkl
  | 7 => some .blankOn
  | 8 => some .select
  | 9 => some .latchOn
  | 10 => some .latchOff
  | 11 => some .blankOff
  | 12 => some .dwell
  | _ => none

/-- The micro-operation a position selects (10_state.md rule R20: "during a micro-operation it holds that
micro-operation's code"). -/
def microOp : Phase → Instr
  | .idle => .idle
  | .check => .check
  | .take => .take
  | .advance => .advance
  | .shiftData => .shiftData
  | .shiftClkh => .shiftClkh
  | .shiftClkl => .shiftClkl
  | .blankOn => .blankOn
  | .select => .select
  | .latchOn => .latchOn
  | .latchOff => .latchOff
  | .blankOff => .blankOff
  | .dwell => .dwell

/-! ### Decode -/

/-- Why a word names no operation. -/
inductive DecodeError where
  /-- The request vector is `0b000`: "no request" (R85). -/
  | noRequest
  /-- A sequencer code of 13, 14 or 15: reserved (R91). -/
  | reservedPosition (code : BitVec 4)
  deriving DecidableEq, Repr

/-- Format X: each request is matched on its own bit (R85); of several presented together the first in the order START,
STOP, DEPOSIT is read, the order in which they take effect (60_exceptions.md rule R200), and `OpWord.rest` is what is
left of the vector. -/
def decodeRequest (xreq : BitVec 3) (depFrame : BitVec 1152) : Except DecodeError Instr :=
  if xreq.getLsbD 0 then .ok .start
  else if xreq.getLsbD 1 then .ok .stop
  else if xreq.getLsbD 2 then .ok (.deposit (unpackFrame depFrame))
  else .error .noRequest

/-- Format D (R87): 0 OPEN, 1 READ, 2 WRITE, 3 CLOSE. The payload belongs to WRITE; the other calls have no operand. -/
def decodeCall (dop : BitVec 2) (payload : List Byte) : Instr :=
  match dop.toNat with
  | 0 => .devOpen
  | 1 => .devRead
  | 2 => .devWrite payload
  | _ => .devClose

/-- The operation an encoded word stands for (R84 to R88). -/
def decode : OpWord → Except DecodeError Instr
  | .x xreq depFrame => decodeRequest xreq depFrame
  | .s code => match positionOf code with
    | some p => .ok (microOp p)
    | none => .error (.reservedPosition code)
  | .d dop payload => .ok (decodeCall dop payload)
  | .p payload => .ok (.frameDecode payload)

/-- A request vector with its lowest 1 bit cleared: the requests that are still to be served (R85, R200). -/
def restOfRequest (xreq : BitVec 3) : BitVec 3 := xreq &&& (xreq - 1)

/-! ### Encode -/

/-- The word of an operation, from the same tables: one request bit (R85), a position code (R86), a device-call code
(R87), or the payload itself (R88). An operand port that the operation does not read is 0 or empty. -/
def encode : Instr → OpWord
  | .start => .x 1 0
  | .stop => .x 2 0
  | .deposit f => .x 4 (packFrame f)
  | .idle => .s (positionCode .idle)
  | .check => .s (positionCode .check)
  | .take => .s (positionCode .take)
  | .advance => .s (positionCode .advance)
  | .shiftData => .s (positionCode .shiftData)
  | .shiftClkh => .s (positionCode .shiftClkh)
  | .shiftClkl => .s (positionCode .shiftClkl)
  | .blankOn => .s (positionCode .blankOn)
  | .select => .s (positionCode .select)
  | .latchOn => .s (positionCode .latchOn)
  | .latchOff => .s (positionCode .latchOff)
  | .blankOff => .s (positionCode .blankOff)
  | .dwell => .s (positionCode .dwell)
  | .devOpen => .d 0 []
  | .devRead => .d 1 []
  | .devWrite c => .d 2 c
  | .devClose => .d 3 []
  | .frameDecode c => .p c

/-! ### The opcode table's numbering -/

/-- The word that `w`, numbered as spec/opcode_table.json numbers a row of `nbits` bits, stands for, with every operand
port at zero (a payload of no characters). The table's four formats overlap as numbers, and only the row's width tells
them apart: 3 bits format X, 4 bits format S, 2 bits format D, no bits format P. One whole byte (8) is read as format S,
the block's own operation code, its "program counter" (10_state.md rule R20). Log entry 6. -/
def tableWord (nbits w : Nat) : Option OpWord :=
  match nbits with
  | 0 => if w = 0 then some (.p []) else none
  | 2 => if w < 4 then some (.d (BitVec.ofNat 2 w) []) else none
  | 3 => if w < 8 then some (.x (BitVec.ofNat 3 w) 0) else none
  | 4 => if w < 16 then some (.s (BitVec.ofNat 4 w)) else none
  | 8 => if w < 16 then some (.s (BitVec.ofNat 4 w)) else none
  | _ => none

/-- What the decoder reads from a row's bits; none where it refuses. -/
def decodeTableWord (nbits w : Nat) : Option Instr :=
  match tableWord nbits w with
  | none => none
  | some word => match decode word with
    | .ok i => some i
    | .error _ => none

end Sys2Proof
end

