-- ==== Sys2Proof/Machine/State.lean ====
section
/-! DEFINITION. The state of the machine as plain data, and its value right after reset.

10_state.md rule R10 gives the block's tuple `(ACT, PND, RDY, ROW, RUN, PH, BITCNT, DATA, CLK, A, LATCH, BLANK)`; beside
it stand the tick level's `TMR` (R22) and the two synchroniser views of `RDY` (R28), the boundary software's `OPEN_COUNT`
and `ACK` (44 R181, R183) with the calls that are held (41 R117) and the results returned, the host's acquired lines
(70 R226), and the model's own two fields: the stimulus script and the counter of free values. -/

namespace Sys2Proof.Machine

/-- Why a step would stop the machine. The spec gives the block no fault at all: "The scanner never raises" (00 R262),
"this driver does not fail at the logical level" (43 R162), an error of a boundary call is its RESULT (60 R204), a held
request is "not at fault" (00 R262). So the type has no constructor, and no step can answer a fault. -/
inductive Fault where
  deriving DecidableEq, Repr

/-- Why the model would refuse an instruction. -/
inductive Refusal where
  /-- Raised by an arm of `exec` for an instruction the model gives no meaning yet. No arm does; safe. -/
  | notModelled (mnemonic : String)
  deriving DecidableEq, Repr

/-- `RUN` (10_state.md rule R18). `halted` is the source's terminal `Stopped`: nothing but reset leaves it. -/
inductive RunState where
  | stopped | running | stopping | halted
  deriving DecidableEq, Repr

/-- The errors of 60_exceptions.md rule R191. -/
inductive Error where
  /-- Raised by DECODE, hence WRITE: fewer than 288 characters. -/
  | insufficientData
  /-- Raised by DECODE, hence WRITE: a non-hex character, the least index of one. -/
  | invalidHexDigit (index : Nat)
  /-- Result of a bring-up: a line could not be acquired. -/
  | initializationFailure
  /-- Result of a bring-up: the scan loop could not be started. -/
  | taskStartFailure
  deriving DecidableEq, Repr

/-- What a boundary call or a bring-up returns to its caller (00_scope.md rule R8: "the results returned by the boundary
calls"). -/
inductive CallResult where
  /-- OPEN, CLOSE, a completed bring-up. -/
  | success
  /-- WRITE: the number of characters consumed. -/
  | count (n : Nat)
  /-- READ: the acknowledgement bytes. -/
  | bytes (ack : List Byte)
  /-- DECODE: a whole Frame. -/
  | frame (f : Frame)
  /-- The call met an error (60 R204: "an error is the result value of the call that met it"). -/
  | error (e : Error)
  deriving DecidableEq, Repr

/-- Who waits for the slot: the bare DEPOSIT port, which returns nothing, or a WRITE, which returns 288. -/
inductive Caller where
  | port | write
  deriving DecidableEq, Repr

/-- A producer call that is held because the slot is full (41 R116, R117; 44 R184: "WRITE does not return until its
DEPOSIT has completed"). -/
structure HeldCall where
  frame  : Frame
  caller : Caller
  deriving DecidableEq, Repr

/-- The state. A level of 1 on a pin or a flag is `true`. -/
structure State where
  /-- `ACT`, the Active Display Buffer (R12). -/
  act : Frame
  /-- `PND`, the Frame of the Pending-Frame Slot (R14). -/
  pnd : Frame
  /-- `RDY`, the slot's ready flag (R15). -/
  rdy : Bool
  /-- `ROW`, the Row Index (R17). -/
  row : BitVec 3
  /-- `RUN`, the run state (R18). -/
  run : RunState
  /-- `PH`, the sequencer position (R20). -/
  ph : Phase
  /-- `BITCNT`, the serializer's bit counter (R21). -/
  bitcnt : BitVec 8
  /-- `DATA` pin (R24). -/
  data : Bool
  /-- `CLK` pin (R24). -/
  clk : Bool
  /-- `A[2:0]` pins (R24). -/
  a : BitVec 3
  /-- `LATCH` pin (R24). -/
  latch : Bool
  /-- `BLANK` pin (R24). -/
  blank : Bool
  /-- `TMR`, the hold timer of the tick level: ticks still to pass before the next micro-operation (R22). -/
  tmr : Nat
  /-- `RDY_P`, the producer's view of `RDY`, which drives `dep_ready` (R28). -/
  rdyP : Bool
  /-- `RDY_S`, the scanner's view of `RDY`, which TAKE tests at the tick level (R28). -/
  rdyS : Bool
  /-- `OPEN_COUNT` (44 R181). -/
  openCount : Nat
  /-- `ACK` (44 R183). -/
  ack : List Byte
  /-- Every result the boundary software has returned, the last one first; none before any call (R8, R204). -/
  results : List CallResult
  /-- Producer calls held on a full slot, the longest held first (41 R117). -/
  held : List HeldCall
  /-- Lines the host holds, the last acquired first (70 R226). -/
  linesHeld : List PinLine
  /-- Lines in the order in which the host released them last (70 R226, R227). -/
  released : List PinLine
  /-- Result of the host's last bring-up; none before any. -/
  hostResult : Option CallResult
  /-- The MODEL's own: the rest of the stimulus script, which says what agent moves next (00 R6, 30 R98). -/
  script : List Event
  /-- The MODEL's own: how many free values have been drawn. -/
  draws : Nat
  deriving DecidableEq, Repr

/-- The machine right after the first reset (70_reset_and_hazards.md rules R220, R222; 10_state.md section 9). `PND` and
`ACK` are free values; the boundary software has been called by nobody and the script is empty. -/
def State.reset : State where
  act := Config.hardware.initFrame
  pnd := Config.freeFrame 0
  rdy := false
  row := Config.hardware.rowReset
  run := .stopped
  ph := .idle
  bitcnt := 0
  data := false
  clk := false
  a := 0
  latch := false
  blank := false
  tmr := 0
  rdyP := false
  rdyS := false
  openCount := 0
  ack := Config.freeBytes 0
  results := []
  held := []
  linesHeld := []
  released := []
  hostResult := none
  script := []
  draws := 1

end Sys2Proof.Machine
end

