-- ==== Sys2Proof/Machine/Operands.lean ====
section
/-! DEFINITION. Operands: the cell a bit count names, the serial row word, hex characters, the payload and its inverse.

Formats W, B, A, P of 30_encoding.md and the DECODE function of 40_frame_decoder.md, as pure functions. -/

namespace Sys2Proof.Machine

/-! ### Cells and the row word (formats W, A) -/

/-- `bit(v, i) = (v >> i) & 1` (00_scope.md rule R262). -/
def bitOf (v : Byte) (i : Nat) : Bool := v.getLsbD i

/-- `F[r][b]`: one byte of a frame store (R262, 20_memory.md rule R40). -/
def byteOf (f : Frame) (r : Fin 8) (b : Fin 18) : Byte := f[r][b]

/-- Byte index of the cell that bit count `n` names: `BITCNT div 8` (30_encoding.md rule R78). -/
def byteIndex (n : BitVec 8) : Nat := n.toNat / 8

/-- Bit index of the cell that bit count `n` names: `7 - (BITCNT mod 8)` (R78): most significant bit first (R43). -/
def bitIndex (n : BitVec 8) : Nat := 7 - n.toNat % 8

/-- `W[n]` of one row: `bit(row[n div 8], 7 - (n mod 8))` (30_encoding.md rule R74). Past the row's 18 bytes, where the spec
states no cell (R21: "Values 144..255 are unreachable"), a free value; log entry 5. -/
def rowCell (row : Row) (n : BitVec 8) : Bool :=
  if h : byteIndex n < 18 then bitOf row[byteIndex n] (bitIndex n) else Config.freeCell n

/-- The row of a Frame that the Row Index names. -/
def rowOf (f : Frame) (r : BitVec 3) : Row := f[r.toNat]'(by have := r.isLt; omega)

/-- Format W, the serial row word: the 144 bits one scan cycle presents on `DATA`, first bit sent first (R74). -/
def rowWord (row : Row) : List Bool := (List.range 144).map fun n => rowCell row (BitVec.ofNat 8 n)

/-- Format A, the row-select code: plain binary, `A0` the least significant bit (30_encoding.md rule R76). -/
def selectCode (row : BitVec 3) : BitVec 3 := row

/-- `(ROW + 1) mod 8`: the carry out of three bits is discarded (43 R152). -/
def nextRow (row : BitVec 3) : BitVec 3 := row + 1

/-- The bit count of the last cell of a row, `ROW_BITS - 1 = 143` (10_state.md rule R21). -/
def lastBit : BitVec 8 := 143

/-! ### Hex characters (format P) -/

/-- `hexval` (30_encoding.md rule R71): the value of one of the 22 hex characters, upper and lower case alike; none for
any other character. The byte values of the characters are ASCII's (93 G1). -/
def hexval (c : Byte) : Option Nibble :=
  let n := c.toNat
  if 0x30 ≤ n ∧ n ≤ 0x39 then some (BitVec.ofNat 4 (n - 0x30))
  else if 0x41 ≤ n ∧ n ≤ 0x46 then some (BitVec.ofNat 4 (n - 0x41 + 10))
  else if 0x61 ≤ n ∧ n ≤ 0x66 then some (BitVec.ofNat 4 (n - 0x61 + 10))
  else none

/-- `byte = 16*hexval(hi) + hexval(lo)`, the first character of the pair the high nibble (30_encoding.md rule R72). -/
def byteOfNibbles (hi lo : Nibble) : Byte := BitVec.ofNat 8 (16 * hi.toNat + lo.toNat)

/-- Character `k` of a payload. -/
def charAt (c : List Byte) (k : Nat) : Byte := c.getD k 0

/-- The least index below 288 of a character outside the hex alphabet, if there is one (40_frame_decoder.md rule
R105). -/
def firstNonHex (c : List Byte) : Option Nat := (c.take 288).findIdx? fun ch => (hexval ch).isNone

/-- The nibble of character `k`: its `hexval`, and for a character without one the nibble `bad k`, which is read only
under `NonHex.draw` (R105). -/
def nibbleAt (bad : Nat → Nibble) (c : List Byte) (k : Nat) : Nibble := (hexval (charAt c k)).getD (bad k)

/-- The Frame of the first 288 characters: `F[r][b] = 16*hexval(c[2*off]) + hexval(c[2*off+1])`, `off = 18*r + b`
(40_frame_decoder.md rule R102, 20_memory.md rule R42). -/
def assemble (bad : Nat → Nibble) (c : List Byte) : Frame :=
  Vector.ofFn fun r => Vector.ofFn fun b =>
    byteOfNibbles (nibbleAt bad c (2 * (18 * r.val + b.val))) (nibbleAt bad c (2 * (18 * r.val + b.val) + 1))

/-- DECODE (40_frame_decoder.md rule R102): the length is checked first (R106), then the characters; only the first 288
are read (R104). -/
def decodePayload (mode : NonHex) (bad : Nat → Nibble) (c : List Byte) : Except Error Frame :=
  if c.length < 288 then .error .insufficientData
  else match mode with
    | .draw => .ok (assemble bad c)
    | .reject => match firstNonHex c with
      | some k => .error (.invalidHexDigit k)
      | none => .ok (assemble bad c)

/-- The upper-case hex digit of a nibble, as ASCII (R71, 93 G1). -/
def hexDigit (v : Nibble) : Byte := if v.toNat < 10 then BitVec.ofNat 8 (0x30 + v.toNat) else BitVec.ofNat 8 (0x37 + v.toNat)

/-- `ENCODE(F)` of 40_frame_decoder.md rule R109: 288 characters, the upper-case hex digits of each byte in row-major
order, high nibble first. -/
def encodeFrame (f : Frame) : List Byte :=
  (frameBytesOf f).flatMap fun v => [hexDigit (v.extractLsb' 4 4), hexDigit (v.extractLsb' 0 4)]

/-- A hex letter made upper case; any other character unchanged (R107, R109). -/
def upperCase (c : Byte) : Byte := if 0x61 ≤ c.toNat ∧ c.toNat ≤ 0x66 then c - 0x20 else c

/-! ### Frame stores by linear offset (00_scope.md rule R262) -/

/-- `MemRead(S, off, n)`: the `n` bytes of a store from linear offset `off = 18*r + b` on (R262). -/
def memRead (store : Frame) (off n : Nat) : List Byte := ((frameBytesOf store).drop off).take n

/-- `MemWrite(S, off, n, v)` with `n` the length of `v`: the bytes of `v` from linear offset `off` on, every other byte as
it was (R262). Only the whole Frame is ever written (20_memory.md rule R45): `memWrite S 0` of all 144 bytes, which is the
plain assignment of the Frame (`memWrite_whole` in Sys2Proof/Laws/Memory.lean) that DEPOSIT and TAKE are written with. -/
def memWrite (store : Frame) (off : Nat) (v : List Byte) : Frame :=
  Vector.ofFn fun r => Vector.ofFn fun b =>
    if off ≤ 18 * r.val + b.val ∧ 18 * r.val + b.val < off + v.length then v.getD (18 * r.val + b.val - off) 0
    else byteOf store r b

/-! ### Codes of the ports -/

/-- `run_state[1:0]`, the encoding of `RUN` (10_state.md rule R18). -/
def runCode : RunState → BitVec 2
  | .stopped => 0
  | .running => 1
  | .stopping => 2
  | .halted => 3

/-- The number of an error (60_exceptions.md rule R191). -/
def errorCode : Error → Nat
  | .insufficientData => 1
  | .invalidHexDigit _ => 2
  | .initializationFailure => 3
  | .taskStartFailure => 4

/-- `stopped(RUN)`: `RUN = Stopped or RUN = Halted` (R18). -/
def isStopped (r : RunState) : Bool := r == .stopped || r == .halted

end Sys2Proof.Machine
end

