-- ==== Sys2Proof/Machine/Flags.lean ====
section
/-! DEFINITION. The ready flag, the only flag of the block (10_state.md rule R15: "there are no condition codes"), and its
two synchroniser views (R28). -/

namespace Sys2Proof.Machine

/-- Write `RDY`. In the untimed model the two views follow in the same step ("the untimed model has the single flag
`RDY`", R28). -/
def State.setRdy (v : Bool) (s : State) : State := { s with rdy := v, rdyP := v, rdyS := v }

/-- The slot is full: `PND` holds a Frame not yet consumed (R15). The untimed steps test this flag itself. DESIGN CHOICE, log
entry 24: they do so too in a script that mixes them with lagging ticks, of which the spec says nothing; there an untimed
DEPOSIT may fill the slot while `RDY_P = 1` still, and an untimed TAKE may empty it while `RDY_S = 0` still. -/
abbrev State.slotFull (s : State) : Bool := s.rdy

/-- `dep_ready`, driven by the producer's view (30_encoding.md rule R90: `not RDY`; 10_state.md rule R28). -/
abbrev State.depReady (s : State) : Bool := !s.rdyP

/-- The views after a tick: TAKE lowers the scanner's view at once and DEPOSIT raises the producer's at once; the other
direction of each follows when its synchroniser passes (R28). `old` is the state before the tick. -/
def State.settleViews (pass : SyncPass) (old s : State) : State :=
  { s with
    rdyS := if pass.toScanner then s.rdy else old.rdyS && s.rdy
    rdyP := if pass.toProducer then s.rdy else old.rdyP || s.rdy }

end Sys2Proof.Machine
end

