-- ==== Sys2Proof/Machine/Ops.lean ====
section
/-! DEFINITION. The named operations that the meanings are made of: the sequencer position, the pins, the slot, the result
of a call, the raising of an error, and reset.

Raising an error is the block's counterpart of taking an exception (60_exceptions.md rule R204): nothing is saved, no mode
changes, control goes nowhere; the error is the result of the call. There is no return from it (R206). -/

namespace Sys2Proof.Machine

/-- What a meaning answers. -/
abbrev Outcome := Host.Outcome State Fault Refusal

/-- One thing after another: the second runs only from a next state. -/
def andThen (o : Outcome) (f : State → Outcome) : Outcome :=
  match o with
  | .next s => f s
  | .fault r => .fault r
  | .refused r => .refused r

/-! ### Scanner -/

/-- `PH <- target` (00_scope.md rule R262). -/
def State.goto (p : Phase) (s : State) : State := { s with ph := p }

/-- `BITCNT <- n`. -/
def State.setBitcnt (n : BitVec 8) (s : State) : State := { s with bitcnt := n }

/-- `ROW <- r`. -/
def State.setRow (r : BitVec 3) (s : State) : State := { s with row := r }

/-- `RUN <- r`. -/
def State.setRun (r : RunState) (s : State) : State := { s with run := r }

/-- `DATA <- v` (10_state.md rule R24: the level stays until the next write). -/
def State.driveData (v : Bool) (s : State) : State := { s with data := v }

/-- `CLK <- v`. -/
def State.driveClk (v : Bool) (s : State) : State := { s with clk := v }

/-- `A[2:0] <- v`, all three lines in one step (43 R154). -/
def State.driveA (v : BitVec 3) (s : State) : State := { s with a := v }

/-- `LATCH <- v`. -/
def State.driveLatch (v : Bool) (s : State) : State := { s with latch := v }

/-- `BLANK <- v`. -/
def State.driveBlank (v : Bool) (s : State) : State := { s with blank := v }

/-! ### The Pending-Frame Slot -/

/-- `PND <- F; RDY <- 1` in one step (41 R116). -/
def State.fillSlot (f : Frame) (s : State) : State := State.setRdy true { s with pnd := f }

/-- `ACT <- PND; RDY <- 0` in one step; `PND` keeps its bytes, which are dead (41 R120). -/
def State.drainSlot (s : State) : State := State.setRdy false { s with act := s.pnd }

/-! ### Results, errors, held calls -/

/-- A call returns `r` to its caller: one more result returned (R8). -/
def State.complete (r : CallResult) (s : State) : State := { s with results := r :: s.results }

/-- `raise e`: the call ends with the error as its result and no state is written (00 R262, 60 R194, R204). -/
def State.raise (e : Error) (s : State) : State := State.complete (.error e) s

/-- The caller of a DEPOSIT that has just completed gets its result: WRITE returns 288, the bare port nothing (44
R184). -/
def State.answer (caller : Caller) (s : State) : State :=
  match caller with
  | .port => s
  | .write => State.complete (.count 288) s

/-- A producer presents a Frame: on an empty slot the DEPOSIT happens; on a full one the call is held and nothing of the
block changes (41 R116, R118). -/
def State.present (f : Frame) (caller : Caller) (s : State) : State :=
  if s.slotFull then { s with held := s.held ++ [{ frame := f, caller := caller }] }
  else State.answer caller (State.fillSlot f s)

/-- The `k`-th held call takes its DEPOSIT step if the slot is empty; on a full slot, or if there is no such call, it has
no step (41 R116, 70 R236). -/
def State.resumeHeld (k : Nat) (s : State) : State :=
  match s.held[k]? with
  | none => s
  | some h => if s.slotFull then s else State.answer h.caller (State.fillSlot h.frame { s with held := s.held.eraseIdx k })

/-- The `k`-th held caller, if it is a bare DEPOSIT, drops its request, which "leaves the state unchanged" but for the
list of those who wait (41 R117). A held WRITE does not return before its DEPOSIT (44 R184): nothing happens. -/
def State.withdrawHeld (k : Nat) (s : State) : State :=
  match s.held[k]? with
  | none => s
  | some h => match h.caller with
    | .port => { s with held := s.held.eraseIdx k }
    | .write => s

/-- One free value has been drawn. -/
def State.drawn (s : State) : State := { s with draws := s.draws + 1 }

/-! ### Reset -/

/-- Reset of the block, in any state (70 R220): the state of rule R10 and the tick level take their reset values; `PND`
becomes unspecified (a fresh free value). The boundary software and the host's lines are not the block's and stay (R221:
a held DEPOSIT "finds `dep_ready = 1` after it"). -/
def State.resetBlock (c : Config) (s : State) : State :=
  { s with
    act := c.initFrame
    pnd := Config.freeFrame s.draws
    rdy := false
    row := c.rowReset
    run := .stopped
    ph := .idle
    bitcnt := 0
    data := false
    clk := false
    a := 0
    latch := false
    blank := false
    tmr := 0
    rdyP := false
    rdyS := false
    draws := s.draws + 1 }

/-! ### The host's lines -/

/-- Every line held is released, the last acquired first: "reverse of acquisition" (70 R226, R227). -/
def State.releaseLines (s : State) : State := { s with released := s.linesHeld, linesHeld := [] }

/-- One more line acquired. -/
def State.acquireLine (l : PinLine) (s : State) : State := { s with linesHeld := l :: s.linesHeld }

end Sys2Proof.Machine
end

