-- ==== Sys2Proof/Machine/Boundary.lean ====
section
/-! DEFINITION. The boundary software: the calls OPEN, READ, WRITE, CLOSE (44_device_interface.md) and the function DECODE
(40_frame_decoder.md). An error is the result of the call (60_exceptions.md rule R204). -/

namespace Sys2Proof.Machine

/-- The draws DECODE has made from the free nibbles: one under `NonHex.draw`, none under `reject`. -/
def noteDraw (mode : NonHex) (s : State) : State :=
  match mode with
  | .reject => s
  | .draw => State.drawn s

/-- DECODE as the boundary software runs it, with the machine's `NONHEX` and a fresh draw of bad nibbles (R105). -/
def decodeNow (c : List Byte) (s : State) : Except Error Frame :=
  decodePayload Config.hardware.nonhex (Config.freeNibble s.draws) c

/-- OPEN (R182): `OPEN_COUNT <- OPEN_COUNT + 1`; returns success. -/
def execOpen (s : State) : Outcome := .next (State.complete .success { s with openCount := s.openCount + 1 })

/-- READ (R183): returns the byte string `ACK`. What writes `ACK`, and when, is in no source: whatever it holds at this
call is a fresh free value (93 U8). Log entry 3. -/
def execRead (s : State) : Outcome :=
  .next (State.complete (.bytes (Config.freeBytes s.draws)) (State.drawn { s with ack := Config.freeBytes s.draws }))

/-- WRITE (R184): DECODE, which may raise, "then nothing below runs"; then DEPOSIT, held while `RDY = 1`; returns 288 when
the DEPOSIT has completed. -/
def execWrite (c : List Byte) (s : State) : Outcome :=
  match decodeNow c s with
  | .error e => .next (State.raise e s)
  | .ok f => .next (State.present f .write (noteDraw Config.hardware.nonhex s))

/-- CLOSE (R185): returns success and writes nothing else; `OPEN_COUNT` is unchanged. -/
def execClose (s : State) : Outcome := .next (State.complete .success s)

/-- DECODE alone (R100, R102): a pure function of the payload; it returns the Frame or raises, and writes no state. -/
def execDecode (c : List Byte) (s : State) : Outcome :=
  match decodeNow c s with
  | .error e => .next (State.raise e s)
  | .ok f => .next (State.complete (.frame f) (noteDraw Config.hardware.nonhex s))

end Sys2Proof.Machine
end

