-- ==== Sys2Proof/Machine/Driver.lean ====
section
/-! DEFINITION. The Row-Scan Driver: START, STOP and the nine micro-operations IDLE, CHECK, ADVANCE, BLANK_ON, SELECT,
LATCH_ON, LATCH_OFF, BLANK_OFF, DWELL (43_row_scan_driver.md). -/

namespace Sys2Proof.Machine

/-- START (R146): in `Stopped`, `RUN <- Running` and `PH <- CHECK`; otherwise no effect. -/
def execStart (s : State) : Outcome :=
  .next (if s.run = .stopped then State.goto .check (State.setRun .running s) else s)

/-- STOP (R147): in `Running`, `RUN <- Stopping`; otherwise no effect. `PH` is not written. -/
def execStop (s : State) : Outcome := .next (if s.run = .running then State.setRun .stopping s else s)

/-- IDLE (R149): the scanner is held; "No state is read or written, no pin is written". -/
def execIdle (s : State) : Outcome := .next s

/-- CHECK (R150): in `Stopping`, `RUN <- Halted` and `PH <- IDLE`; else `PH <- TAKE`. -/
def execCheck (s : State) : Outcome :=
  .next (if s.run = .stopping then State.goto .idle (State.setRun .halted s) else State.goto .take s)

/-- ADVANCE (R152): `ROW <- (ROW + 1) mod 8`; `BITCNT <- 0`; `PH <- SHIFT_DATA`. -/
def execAdvance (s : State) : Outcome :=
  .next (State.goto .shiftData (State.setBitcnt 0 (State.setRow (nextRow s.row) s)))

/-- BLANK_ON (R153): `BLANK <- 1`; `PH <- SELECT`. -/
def execBlankOn (s : State) : Outcome := .next (State.goto .select (State.driveBlank true s))

/-- SELECT (R154): `A <- ROW`; `PH <- LATCH_ON`. -/
def execSelect (s : State) : Outcome := .next (State.goto .latchOn (State.driveA (selectCode s.row) s))

/-- LATCH_ON (R155): `LATCH <- 1`; `PH <- LATCH_OFF`. -/
def execLatchOn (s : State) : Outcome := .next (State.goto .latchOff (State.driveLatch true s))

/-- LATCH_OFF (R156): `LATCH <- 0`; `PH <- BLANK_OFF`. -/
def execLatchOff (s : State) : Outcome := .next (State.goto .blankOff (State.driveLatch false s))

/-- BLANK_OFF (R157): `BLANK <- 0`; `PH <- DWELL`. -/
def execBlankOff (s : State) : Outcome := .next (State.goto .dwell (State.driveBlank false s))

/-- DWELL, untimed (R158): `PH <- CHECK`. Its duration is the tick level's (Machine/Tick.lean). -/
def execDwell (s : State) : Outcome := .next (State.goto .check s)

end Sys2Proof.Machine
end

