-- ==== Sys2Proof/Machine/Serializer.lean ====
section
/-! DEFINITION. The Row Serializer: SHIFT_DATA, SHIFT_CLKH, SHIFT_CLKL (42_row_serializer.md). -/

namespace Sys2Proof.Machine

/-- SHIFT_DATA (R131): `DATA <- bit(ACT[ROW][BITCNT div 8], 7 - (BITCNT mod 8))`; `PH <- SHIFT_CLKH`. -/
def execShiftData (s : State) : Outcome :=
  .next (State.goto .shiftClkh (State.driveData (rowCell (rowOf s.act s.row) s.bitcnt) s))

/-- SHIFT_CLKH (R132): `CLK <- 1`; `PH <- SHIFT_CLKL`. -/
def execShiftClkh (s : State) : Outcome := .next (State.goto .shiftClkl (State.driveClk true s))

/-- SHIFT_CLKL (R133): `CLK <- 0`; after the 144th pulse `BITCNT <- 0` and on to BLANK_ON, else `BITCNT <- BITCNT + 1`
and the next bit. -/
def execShiftClkl (s : State) : Outcome :=
  let low := State.driveClk false s
  .next (if s.bitcnt = lastBit then State.goto .blankOn (State.setBitcnt 0 low)
    else State.goto .shiftData (State.setBitcnt (s.bitcnt + 1) low))

end Sys2Proof.Machine
end

