-- ==== Sys2Proof/Machine/Slot.lean ====
section
/-! DEFINITION. The Pending-Frame Slot operations: DEPOSIT and TAKE (41_pending_slot.md). -/

namespace Sys2Proof.Machine

/-- DEPOSIT *F* (R116): held while `RDY = 1`; else `PND <- F`, `RDY <- 1`. It does not read `RUN` (R119). -/
def execDeposit (f : Frame) (s : State) : Outcome := .next (State.present f .port s)

/-- TAKE (R120): if `RDY = 1` then `ACT <- PND`, `RDY <- 0`; in either case `PH <- ADVANCE`. -/
def execTake (s : State) : Outcome :=
  .next (State.goto .advance (if s.slotFull then State.drainSlot s else s))

end Sys2Proof.Machine
end

