-- ==== Sys2Proof/Machine/Dispatch.lean ====
section
/-! DEFINITION. Which meaning each instruction has: one arm per constructor of `Instr`. -/

namespace Sys2Proof.Machine

/-- One instruction, executed by its agent as one atomic step (20_memory.md rule R52). -/
def exec (i : Instr) (s : State) : Host.Outcome State Fault Refusal :=
  match i with
  | .start => Sys2Proof.Machine.execStart s
  | .stop => Sys2Proof.Machine.execStop s
  | .deposit f => Sys2Proof.Machine.execDeposit f s
  | .idle => Sys2Proof.Machine.execIdle s
  | .check => Sys2Proof.Machine.execCheck s
  | .take => Sys2Proof.Machine.execTake s
  | .advance => Sys2Proof.Machine.execAdvance s
  | .shiftData => Sys2Proof.Machine.execShiftData s
  | .shiftClkh => Sys2Proof.Machine.execShiftClkh s
  | .shiftClkl => Sys2Proof.Machine.execShiftClkl s
  | .blankOn => Sys2Proof.Machine.execBlankOn s
  | .select => Sys2Proof.Machine.execSelect s
  | .latchOn => Sys2Proof.Machine.execLatchOn s
  | .latchOff => Sys2Proof.Machine.execLatchOff s
  | .blankOff => Sys2Proof.Machine.execBlankOff s
  | .dwell => Sys2Proof.Machine.execDwell s
  | .devOpen => Sys2Proof.Machine.execOpen s
  | .devRead => Sys2Proof.Machine.execRead s
  | .devWrite c => Sys2Proof.Machine.execWrite c s
  | .devClose => Sys2Proof.Machine.execClose s
  | .frameDecode c => Sys2Proof.Machine.execDecode c s

end Sys2Proof.Machine
end

