-- ==== Sys2Proof/Machine/HostSide.lean ====
section
/-! DEFINITION. The host's sequences: bring-up and the end of teardown (70_reset_and_hazards.md rules R226, R227;
60_exceptions.md rule R193). They are software around the block; of the block they use only reset and START. -/

namespace Sys2Proof.Machine

/-- Acquire lines in the order given, one after another. -/
def acquireAll (lines : List PinLine) (s : State) : State := lines.foldl (fun t l => State.acquireLine l t) s

/-- A bring-up that fails: every line acquired so far is released in reverse order and the error is the result (R226:
"a failure partway through releases everything acquired so far"). -/
def abortBringUp (e : Error) (s : State) : State :=
  { State.releaseLines s with hostResult := some (.error e) }

/-- The bring-up succeeded. -/
def noteHostSuccess (s : State) : State := { s with hostResult := some .success }

/-- Bring-up (R226): (1) acquire every line, in the plan's order; a refused one aborts with `InitializationFailure` before
the block is touched; (2) apply reset; (3) START; if the scan loop cannot be started, abort with `TaskStartFailure`, the
block staying in reset state (60 R193).

DESIGN CHOICE, log entry 13: the spec describes a bring-up from reset only. Here one may be attempted in any state, and a
refused acquisition then leaves the block as it was, Running, Stopping or Halted too. -/
def bringUp (c : Config) (plan : BringUp) (s : State) : Outcome :=
  let fresh := { s with linesHeld := [] }
  match plan.refused with
  | some k => .next (abortBringUp .initializationFailure (acquireAll (plan.order.take k) fresh))
  | none =>
    let ready := State.resetBlock c (acquireAll plan.order fresh)
    if plan.taskStarts then andThen (exec .start ready) fun t => .next (noteHostSuccess t)
    else .next (abortBringUp .taskStartFailure ready)

/-- The last step of teardown (R227): once the scanner has halted, release the lines in reverse order of acquisition;
before that the host waits, and nothing happens. -/
def releaseAtHalt (s : State) : State := if s.run = .halted then State.releaseLines s else s

end Sys2Proof.Machine
end

