-- ==== Sys2Proof/Machine/Tick.lean ====
section
/-! DEFINITION. The tick level (00_scope.md rule R7): one tick of `clk`, with the hold timer, the request ports, reset, and
the synchronisers of the ready flag.

The scanner's micro-operation acts on the state before the tick; then the requests presented in the tick take effect in
the order START, STOP, DEPOSIT (60_exceptions.md rule R200). -/

namespace Sys2Proof.Machine

/-- `HOLD(m)` in ticks (70_reset_and_hazards.md rule R240). IDLE has no hold; it is held until START. -/
def hold (c : Config) : Phase → Nat
  | .idle => 1
  | .check => 1
  | .take => 1
  | .advance => 1
  | .shiftData => c.tSetup
  | .shiftClkh => c.tClkh
  | .shiftClkl => c.tClkl
  | .blankOn => c.tBlank
  | .select => c.tSel
  | .latchOn => c.tLatch
  | .latchOff => c.tRel
  | .blankOff => 1
  | .dwell => c.dwell

/-- The length of a scan cycle in ticks (R241). -/
def cycleTicks (c : Config) : Nat :=
  3 + 144 * (c.tSetup + c.tClkh + c.tClkl) + c.tBlank + c.tSel + c.tLatch + c.tRel + 1 + c.dwell

/-- The scanner is due: its hold has expired, or it is in the hold of DWELL (whose successor is CHECK) and a stop is
pending, which ends the dwell (43 R158, R240). -/
abbrev State.due (s : State) : Bool := s.tmr == 0 || (s.ph == .check && s.run == .stopping)

/-- The scanner's micro-operation at the tick level. TAKE tests the scanner's own view `RDY_S` (10_state.md rule R28); while
that view lags, TAKE finds nothing. -/
def microTick (s : State) : Outcome :=
  if s.ph = .take ∧ s.rdyS = false then .next (State.goto .advance s) else exec (microOp s.ph) s

/-- The scanner's part of a tick: in IDLE nothing; when due, one micro-operation, whose hold is loaded into `TMR`;
otherwise `TMR` counts down (R22, R240). -/
def scanTick (c : Config) (s : State) : Outcome :=
  if s.ph = .idle then .next { s with tmr := 0 }
  else if State.due s then andThen (microTick s) fun t => .next { t with tmr := hold c s.ph - 1 }
  else .next { s with tmr := s.tmr - 1 }

/-- A request acts if it is presented. -/
def whenPresented (presented : Bool) (i : Instr) (s : State) : Outcome := if presented then exec i s else .next s

/-- One tick (R200, R201, R220, R240). In a tick with `rst = 1` "every request is ignored, no micro-operation executes".
`dep_ready` is the producer's view before the tick: a DEPOSIT presented in the tick in which TAKE empties the slot stays
held (R201).

DESIGN CHOICE, log entry 24, for a script that mixes ticks with untimed events, of which the spec says nothing: a tick serves
only what its own ports present. A call that an untimed event left in `State.held` is neither presented nor served by a tick,
even with `dep_ready = 1`; the event `resume` or the default schedule serves it. -/
def tick (c : Config) (p : Ports) (pass : SyncPass) (s : State) : Outcome :=
  if p.rst then .next (State.resetBlock c s)
  else
    andThen (scanTick c s) fun s1 =>
    andThen (whenPresented (p.xreq.getLsbD 0) .start s1) fun s2 =>
    andThen (whenPresented (p.xreq.getLsbD 1) .stop s2) fun s3 =>
    andThen (whenPresented (p.xreq.getLsbD 2 && s.depReady) (.deposit (unpackFrame p.depFrame)) s3) fun s4 =>
      .next (State.settleViews pass s s4)

/-- The ports with no request and no reset. -/
def quietPorts : Ports := { rst := false, xreq := 0, depFrame := 0 }

/-- `n` ticks with quiet ports and one clock. -/
def quietTicks (c : Config) : Nat → State → Outcome
  | 0, s => .next s
  | n + 1, s => andThen (tick c quietPorts SyncPass.oneClock s) (quietTicks c n)

end Sys2Proof.Machine
end

