-- ==== Sys2Proof/Machine/Schedule.lean ====
section
/-! DEFINITION. Whose turn it is, and what it does: the body of the step.

An execution "is one total order of steps; each step is one operation of one agent" (20_memory.md rule R52). The script in
the state names the agents in turn, so that over all scripts the steps range over every interleaving. When the script is
used up the machine runs by itself: a held producer whose slot is empty takes its step, else the scanner takes the next
micro-operation (00_scope.md rule R9, weak fairness; log entry 9). -/

namespace Sys2Proof.Machine

/-- The word the scanner fetches: the code its sequencer position holds (10_state.md rule R20). -/
def scanWord (s : State) : OpWord := .s (positionCode s.ph)

/-- What is left of a request vector goes back to the head of the script, so that requests presented together are served
one step each (30_encoding.md rule R85, 60_exceptions.md rule R200). -/
def requeue (w : OpWord) (s : State) : State :=
  match w with
  | .x xreq depFrame =>
    if restOfRequest xreq = 0 then s else { s with script := .request (restOfRequest xreq) depFrame :: s.script }
  | .s _ => s
  | .d _ _ => s
  | .p _ => s

/-- Decode a word and execute it. A vector with no request changes nothing (R85); a reserved position code cannot be
fetched (30_encoding.md rule R91), its arm is here for totality. -/
def runWord (w : OpWord) (s : State) : Outcome :=
  match decode w with
  | .ok i => exec i (requeue w s)
  | .error _ => .next s

/-- The next micro-operation of the scanner, at the untimed level, which has no timer (10_state.md rule R22). DESIGN CHOICE,
log entry 24, for a script that mixes untimed events with ticks, of which the spec says nothing: the micro-operation executes
at once though a tick's hold is still running, and leaves `TMR` as it is, so that the next tick still waits the rest of that
hold; an untimed DWELL loads no hold. -/
def scan (s : State) : Outcome := runWord (scanWord s) s

/-- `n` micro-operations of the scanner with no step of another agent between them (`SCAN n` of 30_encoding.md rule
R98). -/
def scanRun : Nat → State → Outcome
  | 0, s => .next s
  | n + 1, s => andThen (scan s) (scanRun n)

/-- One line of the script, already taken off it. Untimed lines and ticks may stand in one script; what each leaves to the
other (`TMR`, the views of `RDY`, held calls) is the model's choice, log entry 24. -/
def perform (e : Event) (s : State) : Outcome :=
  match e with
  | .scan => scan s
  | .request xreq depFrame => runWord (.x xreq depFrame) s
  | .call dop payload => runWord (.d dop payload) s
  | .text payload => runWord (.p payload) s
  | .resume k => .next (State.resumeHeld k s)
  | .withdraw k => .next (State.withdrawHeld k s)
  | .reset => .next (State.resetBlock Config.hardware s)
  | .tick ports pass => tick Config.hardware ports pass s
  | .bringUp plan => bringUp Config.hardware plan s
  | .release => .next (releaseAtHalt s)

/-- With no script left: the producer held longest, if the slot is empty; else the scanner. -/
def autonomous (s : State) : Outcome :=
  match s.held with
  | [] => scan s
  | _ :: _ => if s.slotFull then scan s else .next (State.resumeHeld 0 s)

/-- The state with the head of the script taken off. -/
def popped (s : State) : State := { s with script := s.script.tail }

/-- One step of the machine. -/
def nextStep (s : State) : Outcome :=
  match s.script with
  | [] => autonomous s
  | e :: _ => perform e (popped s)

/-- The word the next step decodes, where the next step runs an instruction: the request, the call or the payload at the
head of the script, or the scanner's own position code. -/
def fetch (s : State) : Option OpWord :=
  match s.script with
  | [] => match s.held with
    | [] => some (scanWord s)
    | _ :: _ => if s.slotFull then some (scanWord s) else none
  | .scan :: _ => some (scanWord s)
  | .request xreq depFrame :: _ => some (.x xreq depFrame)
  | .call dop payload :: _ => some (.d dop payload)
  | .text payload :: _ => some (.p payload)
  | .resume _ :: _ => none
  | .withdraw _ :: _ => none
  | .reset :: _ => none
  | .tick _ _ :: _ => none
  | .bringUp _ :: _ => none
  | .release :: _ => none

/-- Place a word so that the very next step runs it: a position code into the sequencer with the scanner's turn, a
request, a call or a payload at the head of the script. A reserved position code cannot be placed. -/
def placeWord (w : OpWord) (s : State) : State :=
  match w with
  | .x xreq depFrame => { s with script := .request xreq depFrame :: s.script }
  | .s code => match positionOf code with
    | some p => { s with ph := p, script := .scan :: s.script }
    | none => s
  | .d dop payload => { s with script := .call dop payload :: s.script }
  | .p payload => { s with script := .text payload :: s.script }

/-- Place the instruction that the opcode table numbers `w` (`tableWord`); a number that is no word of the table changes
nothing. -/
def placeTableWord (s : State) (nbits w : Nat) : State :=
  match tableWord nbits w with
  | some word => placeWord word s
  | none => s

end Sys2Proof.Machine
end

