-- ==== Sys2Proof/Machine/Step.lean ====
section
/-! DEFINITION. The step function and the placing of an instruction where it fetches; both call Machine/Schedule.lean. -/

namespace Sys2Proof.Machine

/-- One step of the machine: one operation of one agent (20_memory.md rule R52), or one tick of the tick level. -/
def step (s : State) : Host.Outcome State Fault Refusal := nextStep s

/-- The state with the instruction that spec/opcode_table.json numbers `w` placed where the next step fetches it. -/
def State.withFetchWord (s : State) (nbits w : Nat) : State := placeTableWord s nbits w

end Sys2Proof.Machine
end

