-- ==== Sys2Proof/Machine/Observer.lean ====
section
/-! DEFINITION. What can be seen from outside: the observation of the block (00_scope.md rule R8) and the reference
observer of the external shift chain (42_row_serializer.md rule R138), which is no part of the block and which the block
cannot read. -/

namespace Sys2Proof.Machine

/-- The observation of one state (R8): the pin vector, `dep_ready` and `run_state` (30_encoding.md rule R90), and the
results the boundary calls have returned, all of them, the last one first (log entry 20): each result returned makes the
list longer, so that equal results returned one after another are two. -/
structure Observation where
  data     : Bool
  clk      : Bool
  a        : BitVec 3
  latch    : Bool
  blank    : Bool
  depReady : Bool
  runState : BitVec 2
  results  : List CallResult
  deriving DecidableEq, Repr

/-- The observation of a state. -/
def observe (s : State) : Observation :=
  { data := s.data, clk := s.clk, a := s.a, latch := s.latch, blank := s.blank, depReady := s.depReady,
    runState := runCode s.run, results := s.results }

/-- Drop a value equal to the one before it: traces are compared up to the repetition of identical consecutive vectors
(R8, stuttering). -/
def destutter : List Observation → List Observation
  | [] => []
  | o :: os => match destutter os with
    | [] => [o]
    | p :: ps => if o = p then p :: ps else o :: p :: ps

/-- The pin trace of `n` steps of the machine: the observation after each step. DESIGN CHOICE, log entry 23: R8 samples the
pin vector "after each scanner step" and does not say when `dep_ready`, `run_state` and the results are sampled; here all of
them are sampled after every step of any agent, and after every tick. -/
def pinTrace : Nat → State → List Observation
  | 0, _ => []
  | n + 1, s => match step s with
    | .next t => observe t :: pinTrace n t
    | .fault _ => []
    | .refused _ => []

/-- The external display hardware: the shift chain `SR` and the output latches `OL`, 144 stages each; stage `k` is bit
`k`. Both are unknown at power-up (R138, R29): a claim about them holds for every value. -/
structure Display where
  sr : BitVec 144
  ol : BitVec 144
  deriving DecidableEq, Repr

/-- One step of the observer, given the block before and after a step (R138): `CLK` rising shifts `DATA` in at stage 0,
`LATCH` rising copies the chain into the output latches. -/
def Display.watch (before after : State) (d : Display) : Display :=
  let shifted := if before.clk = false ∧ after.clk = true then d.sr.shiftConcat after.data else d.sr
  { sr := shifted, ol := if before.latch = false ∧ after.latch = true then shifted else d.ol }

/-- The cells visibly lit and the physical row they are in: nothing while `BLANK = 1` (R138). -/
def Display.visible (s : State) (d : Display) : Option (BitVec 3 × BitVec 144) :=
  if s.blank then none else some (s.a, d.ol)

/-- `n` micro-operations of the scanner, watched. -/
def watchRun : Nat → State → Display → Option (State × Display)
  | 0, s, d => some (s, d)
  | n + 1, s, d => match scan s with
    | .next t => watchRun n t (Display.watch s t d)
    | .fault _ => none
    | .refused _ => none

end Sys2Proof.Machine
end

