-- ==== Sys2Proof/Safety.lean ====
section
/-! DEFINITION. What a good state and a good run are, in the words the claims use: the invariants of
70_reset_and_hazards.md section 5, the Frames that enter and leave the slot, and when two states differ only in a Frame
that nobody can read. -/

namespace Sys2Proof.Machine

/-! ### Invariants of the reachable states (70 R250 to R255) -/

/-- The sequencer is inside the serializer. -/
abbrev InSerializer (p : Phase) : Prop := p = .shiftData ∨ p = .shiftClkh ∨ p = .shiftClkl

/-- R250: the bit counter is in 0..143, and 0 outside the serializer. (`PH` in 0..12 and `ROW` in 0..7 hold by their
types.) -/
abbrev RangeInv (s : State) : Prop := s.bitcnt.toNat < 144 ∧ (¬ InSerializer s.ph → s.bitcnt = 0)

/-- R251: the scanner is in IDLE exactly when it is stopped or halted. -/
abbrev IdleInv (s : State) : Prop := s.ph = .idle ↔ (s.run = .stopped ∨ s.run = .halted)

/-- R252: the pins against the sequencer position. -/
abbrev PinInv (s : State) : Prop :=
  (s.clk = true ↔ s.ph = .shiftClkl) ∧ (s.latch = true ↔ s.ph = .latchOff) ∧
    (s.blank = true ↔ (s.ph = .select ∨ s.ph = .latchOn ∨ s.ph = .latchOff ∨ s.ph = .blankOff))

/-- R255, first half: from SELECT to the end of the cycle the row-select lines carry the row's code. -/
abbrev SelectInv (s : State) : Prop :=
  (s.ph = .latchOn ∨ s.ph = .latchOff ∨ s.ph = .blankOff ∨ s.ph = .dwell) → s.a = s.row

/-- R28: the scanner's view is never ahead of the flag, and the producer's never behind it: `RDY_S = 1` implies that the
Frame in `PND` is there, `dep_ready = 1` implies that the scanner has taken it. -/
abbrev ViewInv (s : State) : Prop := (s.rdyS = true → s.rdy = true) ∧ (s.rdy = true → s.rdyP = true)

/-- The invariant of the block. -/
abbrev BlockInv (s : State) : Prop := RangeInv s ∧ IdleInv s ∧ PinInv s ∧ SelectInv s ∧ ViewInv s

/-- One clock: no view of the ready flag lags. -/
abbrev OneClock (s : State) : Prop := s.rdyP = s.rdy ∧ s.rdyS = s.rdy

/-! ### What the next step does to the slot -/

/-- The next step resets the block. -/
def resets (s : State) : Bool :=
  match s.script with
  | [] => false
  | .scan :: _ => false
  | .request _ _ :: _ => false
  | .call _ _ :: _ => false
  | .text _ :: _ => false
  | .resume _ :: _ => false
  | .withdraw _ :: _ => false
  | .reset :: _ => true
  | .tick p _ :: _ => p.rst
  | .bringUp plan :: _ => plan.refused.isNone
  | .release :: _ => false

/-- The Frame that an instruction would put into an empty slot: DEPOSIT's operand, or the Frame a WRITE's payload
decodes to. No other instruction deposits. -/
def depositOperand (i : Instr) (s : State) : Option Frame :=
  match i with
  | .deposit f => some f
  | .devWrite c => (decodeNow c s).toOption
  | .start => none
  | .stop => none
  | .idle => none
  | .check => none
  | .take => none
  | .advance => none
  | .shiftData => none
  | .shiftClkh => none
  | .shiftClkl => none
  | .blankOn => none
  | .select => none
  | .latchOn => none
  | .latchOff => none
  | .blankOff => none
  | .dwell => none
  | .devOpen => none
  | .devRead => none
  | .devClose => none
  | .frameDecode _ => none

/-- The Frame that a word presented to the block offers. -/
def frameOffered (w : OpWord) (s : State) : Option Frame :=
  match decode w with
  | .ok i => depositOperand i s
  | .error _ => none

/-- The operand of the DEPOSIT that the next step executes, if it executes one (41 R116: only on an empty slot). -/
def incoming (s : State) : Option Frame :=
  match s.script with
  | [] => if s.rdy then none else s.held.head?.map (·.frame)
  | .request xreq f :: _ => if s.rdy then none else frameOffered (.x xreq f) s
  | .call dop c :: _ => if s.rdy then none else frameOffered (.d dop c) s
  | .resume k :: _ => if s.rdy then none else s.held[k]?.map (·.frame)
  | .tick p _ :: _ => if p.rst || !p.xreq.getLsbD 2 || s.rdyP then none else some (unpackFrame p.depFrame)
  | .scan :: _ => none
  | .text _ :: _ => none
  | .withdraw _ :: _ => none
  | .reset :: _ => none
  | .bringUp _ :: _ => none
  | .release :: _ => none

/-- The next step lets the scanner execute TAKE. -/
def takesNext (s : State) : Bool :=
  match s.script with
  | [] => s.ph == .take && (s.rdy || s.held.isEmpty)
  | .scan :: _ => s.ph == .take
  | .tick p _ :: _ => !p.rst && s.ph == .take && State.due s && s.rdyS
  | .request _ _ :: _ => false
  | .call _ _ :: _ => false
  | .text _ :: _ => false
  | .resume _ :: _ => false
  | .withdraw _ :: _ => false
  | .reset :: _ => false
  | .bringUp _ :: _ => false
  | .release :: _ => false

/-- The Frame that the next step copies into `ACT`, if it does (41 R120). -/
def outgoing (s : State) : Option Frame := if takesNext s && s.rdy then some s.pnd else none

/-- The Frames waiting in the slot: none or one. -/
def waiting (s : State) : List Frame :=
  match s.rdy with
  | true => [s.pnd]
  | false => []

/-- A run without a reset, with the Frames deposited and the Frames taken along it, each in order. -/
inductive Delivers : State → List Frame → List Frame → State → Prop where
  | start (s : State) : Delivers s [] [] s
  | more {s t u : State} {ins outs : List Frame} : Delivers s ins outs t → resets t = false → step t = .next u →
      Delivers s (ins ++ (incoming t).toList) (outs ++ (outgoing t).toList) u

/-- A run, resets included, with the Frames deposited along it. -/
inductive Reaches : State → List Frame → State → Prop where
  | start (s : State) : Reaches s [] s
  | more {s t u : State} {ins : List Frame} : Reaches s ins t → step t = .next u →
      Reaches s (ins ++ (incoming t).toList) u

/-! ### States that differ only where nobody can look -/

/-- `t` is `s` but, when the slot is empty, for the dead bytes of `PND` (41 R120: "nothing reads them before the next
DEPOSIT overwrites them"). -/
def SameButDeadPnd (s t : State) : Prop := t = { s with pnd := t.pnd } ∧ (s.rdy = true → t.pnd = s.pnd)

/-- The untimed state behind a tick-level state: the flag is the scanner's view of it (20_memory.md rule R55 puts the
DEPOSIT step where `RDY_S` rises), no view lags, and the hold timer is forgotten (10_state.md rule R22). -/
def untimedView (s : State) : State := { s with rdy := s.rdyS, rdyP := s.rdyS, tmr := 0 }

/-! ### The row whose data the display holds -/

/-- The row committed last: a LATCH that rises commits the row `ROW` names (70 R255). -/
def commitRow (before after : State) (last : Option (BitVec 3)) : Option (BitVec 3) :=
  if before.latch = false ∧ after.latch = true then some before.row else last

/-- R255, second half, with its companions while the display is blanked: once a row has been committed, `A` carries its
code whenever `BLANK = 0`, and from LATCH_OFF on the row committed is the current one. -/
abbrev CommittedInv (s : State) (last : Option (BitVec 3)) : Prop :=
  ((s.ph = .latchOff ∨ s.ph = .blankOff ∨ s.ph = .dwell) → last = some s.row) ∧
    (last.isSome = true → s.blank = false → last = some s.a)

end Sys2Proof.Machine
end

