-- ==== Sys2Proof/Certificates/Slice0/Obligations.lean ====
section
/-! DEFINITION. The statements for the provers. Each docstring names the rule of spec/ it formalises; where a clause rests
on a decision or an inference that the spec marks as its own, or on a choice of the model, it says so.

Where a statement adds a result to the list `results`, it says that the call returns it: that the results returned are kept
as a list is the model's, log entry 20. -/

open Sys2Proof Sys2Proof.Machine

/-! ### Reset -/

/-- 10_state.md section 9 and rule R220. The values are the spec's own decisions (92 D2, D6, D7, D9, D12, D14, D20, D27),
except `RUN` and the test pattern, which the source gives. The two views of `RDY` have no reset value in the spec (R28): that
both are 0 is the model's choice, log entry 10. Nothing is claimed of `PND` and `ACK`, which are free. -/
def Obligations.ResetStateHoldsTheSpecsValues : Prop :=
  (∀ (r : Fin 8) (b : Fin 18), (byteOf State.reset.act r b).toNat = if b.val = 0 then 2 ^ r.val else 0) ∧
    State.reset.rdy = false ∧ State.reset.rdyP = false ∧ State.reset.rdyS = false ∧
    State.reset.row.toNat = 7 ∧ State.reset.run = .stopped ∧ State.reset.ph = .idle ∧ State.reset.bitcnt = 0 ∧
    State.reset.tmr = 0 ∧ State.reset.data = false ∧ State.reset.clk = false ∧ State.reset.a = 0 ∧
    State.reset.latch = false ∧ State.reset.blank = false ∧ State.reset.openCount = 0

/-- R220 (92 D2), R221: reset in any state, as an event and as a tick with `rst = 1` whatever else is presented: every
piece of the block's state takes its reset value and `PND` is a fresh free value. The model's choices: both views of `RDY`
become 0 (log entry 10), and the calls held outside the block, the boundary software's state (`OPEN_COUNT`, `ACK`, the
results returned) and the host's lines stay as they are (log entry 11). -/
def Obligations.ResetReloadsTheBlockFromAnyState : Prop :=
  ∀ (s : State) (es : List Event) (e : Event),
    (e = .reset ∨ ∃ x f y, e = .tick { rst := true, xreq := x, depFrame := f } y) → s.script = e :: es →
      step s = .next { s with
        script := es, act := Config.hardware.initFrame, pnd := Config.freeFrame s.draws, rdy := false, row := 7,
        run := .stopped, ph := .idle, bitcnt := 0, data := false, clk := false, a := 0, latch := false, blank := false,
        tmr := 0, rdyP := false, rdyS := false, draws := s.draws + 1 }

/-! ### The Pending-Frame Slot -/

/-- R116. The request bit `xreq[2]` with a Frame word is DEPOSIT of that Frame. On an empty slot DEPOSIT writes all of
`PND` and sets `RDY`, whatever `RUN` is; on a full slot it is held and nothing of the block changes. (What the model keeps
beside the block, the list of held calls and the two views of `RDY`, is left open here; `ViewsFollowTheFlagAndHeldCallsQueue` states it.) -/
def Obligations.DepositFillsAnEmptySlotAndWaitsOnAFullOne : Prop :=
  (∀ w : BitVec 1152, decode (.x 0b100 w) = .ok (.deposit (unpackFrame w))) ∧
  ∀ (f : Frame) (s : State),
    (s.rdy = false → ∃ t : State, exec (.deposit f) s = .next t ∧
      t = { s with pnd := f, rdy := true, rdyP := t.rdyP, rdyS := t.rdyS }) ∧
    (s.rdy = true → ∃ t : State, exec (.deposit f) s = .next t ∧ t = { s with held := t.held })

/-- R120. `PH = 2` is TAKE. With `RDY = 1` it copies `PND` wholesale into `ACT` and clears `RDY`; with `RDY = 0` it writes
only `PH`. It never blocks. -/
def Obligations.TakeConsumesTheReadyFrame : Prop :=
  decode (.s 2) = .ok .take ∧
  ∀ s : State,
    (s.rdy = true → ∃ t : State, exec .take s = .next t ∧
      t = { s with act := s.pnd, rdy := false, ph := .advance, rdyP := t.rdyP, rdyS := t.rdyS }) ∧
    (s.rdy = false → exec .take s = .next { s with ph := .advance })

/-- The model's choices, log entries 8 and 10 (R28, R57 and R117 leave them to the implementation): in the untimed steps both
views of the flag follow it at once; a DEPOSIT that finds the slot full joins the end of the list of held calls; the call
that the script names takes its DEPOSIT once the slot is empty, and not before; a held DEPOSIT may be withdrawn, which, as
R117 says, changes nothing else, while a held WRITE may not (R184). R184: a held WRITE returns 288 when its DEPOSIT
completes; the bare port returns nothing. -/
def Obligations.ViewsFollowTheFlagAndHeldCallsQueue : Prop :=
  (∀ (f : Frame) (s : State),
    (s.rdy = false → ∃ t : State, exec (.deposit f) s = .next t ∧ t.rdyP = true ∧ t.rdyS = true ∧ t.held = s.held) ∧
    (s.rdy = true → exec (.deposit f) s = .next { s with held := s.held ++ [{ frame := f, caller := .port }] }) ∧
    (s.rdy = true → ∃ t : State, exec .take s = .next t ∧ t.rdyP = false ∧ t.rdyS = false)) ∧
  ∀ (s : State) (es : List Event) (h : HeldCall) (before after : List HeldCall), s.held = before ++ h :: after →
    (s.script = .resume before.length :: es →
      (s.rdy = false → step s = .next { s with
        script := es, held := before ++ after, pnd := h.frame, rdy := true, rdyP := true, rdyS := true,
        results := match h.caller with | .write => .count 288 :: s.results | .port => s.results }) ∧
      (s.rdy = true → step s = .next { s with script := es })) ∧
    (s.script = .withdraw before.length :: es →
      (h.caller = .port → step s = .next { s with script := es, held := before ++ after }) ∧
      (h.caller = .write → step s = .next { s with script := es }))

/-- R118 (92 D5: strict blocking), 95 E3: of two Frames deposited before any take, the second waits, the first TAKE
delivers the first Frame, then the held DEPOSIT completes and the next TAKE delivers the second. -/
def Obligations.SecondDepositWaitsForTheFirstToBeTaken : Prop :=
  ∀ (f g : Frame) (s : State), s.rdy = false → s.held = [] →
    ∃ t u v w z : State,
      exec (.deposit f) s = .next t ∧ exec (.deposit g) t = .next u ∧ u.pnd = f ∧ u.act = s.act ∧
        exec .take u = .next v ∧ v.act = f ∧ State.resumeHeld 0 u = u ∧
        State.resumeHeld 0 v = w ∧ w.pnd = g ∧ w.rdy = true ∧ w.held = [] ∧ w.act = f ∧
        exec .take w = .next z ∧ z.act = g ∧ z.rdy = false

/-! ### The Row Serializer -/

/-- R131. `PH = 4` is SHIFT_DATA. The cell with byte index `b` and, from the most significant end, bit number `i`:
`BITCNT = 8*b + i` presents bit `7 - i` of `ACT[ROW][b]`. (A bit count past the row's 144 cells no run reaches, R21; there
the level is free, log entry 5, and the step still answers, as the statement that every step answers says.) -/
def Obligations.ShiftDataPresentsTheCellBit : Prop :=
  decode (.s 4) = .ok .shiftData ∧
  ∀ (s : State) (r : Fin 8) (b : Fin 18) (i : Fin 8), s.row.toNat = r.val → s.bitcnt.toNat = 8 * b.val + i.val →
    exec .shiftData s = .next { s with data := (byteOf s.act r b).getLsbD (7 - i.val), ph := .shiftClkh }

/-- R132 and R133: `PH = 5`, SHIFT_CLKH, raises `CLK`; `PH = 6`, SHIFT_CLKL, lowers it and, at `BITCNT = 143`, clears the
counter and leaves the serializer, else begins the next bit. -/
def Obligations.ClockPulseRisesFallsAndIsCounted : Prop :=
  decode (.s 5) = .ok .shiftClkh ∧ decode (.s 6) = .ok .shiftClkl ∧
  ∀ s : State,
    exec .shiftClkh s = .next { s with clk := true, ph := .shiftClkl } ∧
      (s.bitcnt.toNat = 143 → exec .shiftClkl s = .next { s with clk := false, bitcnt := 0, ph := .blankOn }) ∧
      (s.bitcnt.toNat ≠ 143 →
        exec .shiftClkl s = .next { s with clk := false, bitcnt := s.bitcnt + 1, ph := .shiftData })

/-! ### The Row-Scan Driver -/

/-- R146 and R147 (92 D8): START acts only in `Stopped`; STOP acts only in `Running` and then records the request and
nothing else; elsewhere neither has an effect. -/
def Obligations.StartAndStopActOnlyInTheirStates : Prop :=
  ∀ s : State,
    (s.run = .stopped → exec .start s = .next { s with run := .running, ph := .check }) ∧
      (s.run ≠ .stopped → exec .start s = .next s) ∧
      (s.run = .running → exec .stop s = .next { s with run := .stopping }) ∧
      (s.run ≠ .running → exec .stop s = .next s)

/-- R150 (92 D10): CHECK is where a stop request is observed, before any Frame is taken. -/
def Obligations.LoopTestObservesTheStopRequest : Prop :=
  ∀ s : State,
    (s.run = .stopping → exec .check s = .next { s with run := .halted, ph := .idle }) ∧
      (s.run ≠ .stopping → exec .check s = .next { s with ph := .take })

/-- R152: `PH = 3`, ADVANCE: the Row Index advances modulo 8, the bit counter is cleared, no pin is written. -/
def Obligations.AdvanceWrapsTheRowIndex : Prop :=
  decode (.s 3) = .ok .advance ∧
  ∀ s : State,
    exec .advance s = .next { s with row := BitVec.ofNat 3 ((s.row.toNat + 1) % 8), bitcnt := 0, ph := .shiftData }

/-- R76, R154: SELECT drives the plain binary code of the Row Index, `A0` the least significant bit, all three lines in
one step (the one step is 92 D13). -/
def Obligations.SelectDrivesTheBinaryRowCode : Prop :=
  ∀ s : State, ∃ t : State,
    exec .select s = .next t ∧ t = { s with a := t.a, ph := .latchOn } ∧ t.a.toNat = s.row.toNat ∧
      (t.a.getLsbD 0 = true ↔ s.row.toNat % 2 = 1) ∧ (t.a.getLsbD 1 = true ↔ s.row.toNat / 2 % 2 = 1) ∧
      (t.a.getLsbD 2 = true ↔ s.row.toNat / 4 = 1)

/-- R153, R155, R156 and R157: the pins of the row-commit sequence: `BLANK` is asserted, `LATCH` asserted and released,
`BLANK` released, each by its own micro-operation (`PH` = 7, 9, 10, 11), which then goes on to the next. -/
def Obligations.BlankAndLatchAreAssertedAndReleased : Prop :=
  decode (.s 7) = .ok .blankOn ∧ decode (.s 9) = .ok .latchOn ∧ decode (.s 10) = .ok .latchOff ∧
    decode (.s 11) = .ok .blankOff ∧
  ∀ s : State,
    exec .blankOn s = .next { s with blank := true, ph := .select } ∧
      exec .latchOn s = .next { s with latch := true, ph := .latchOff } ∧
      exec .latchOff s = .next { s with latch := false, ph := .blankOff } ∧
      exec .blankOff s = .next { s with blank := false, ph := .dwell }

/-- R149 (92 D9) and R158 (92 D11), untimed: IDLE reads and writes nothing; DWELL writes only `PH`. -/
def Obligations.IdleHoldsAndDwellReturnsToTheTop : Prop :=
  ∀ s : State, exec .idle s = .next s ∧ exec .dwell s = .next { s with ph := .check }

/-- R148: the successor relation of `PH`, the whole control flow of the scanner: what each micro-operation writes into it,
that START writes CHECK, and that nothing else writes it. -/
def Obligations.SuccessorOfEachPosition : Prop :=
  (∀ s : State, s.run = .stopped → ∃ t : State, exec .start s = .next t ∧ t.ph = .check) ∧
  (∀ (i : Instr) (s t : State), exec i s = .next t → t.ph ≠ s.ph → i = .start ∨ ∃ p : Phase, i = microOp p) ∧
  ∀ s t : State, scan s = .next t →
    match s.ph with
    | .idle => t.ph = .idle
    | .check => (s.run = .stopping → t.ph = .idle ∧ t.run = .halted) ∧ (s.run = .running → t.ph = .take)
    | .take => t.ph = .advance
    | .advance => t.ph = .shiftData
    | .shiftData => t.ph = .shiftClkh
    | .shiftClkh => t.ph = .shiftClkl
    | .shiftClkl => (s.bitcnt.toNat < 143 → t.ph = .shiftData) ∧ (s.bitcnt.toNat = 143 → t.ph = .blankOn)
    | .blankOn => t.ph = .select
    | .select => t.ph = .latchOn
    | .latchOn => t.ph = .latchOff
    | .latchOff => t.ph = .blankOff
    | .blankOff => t.ph = .dwell
    | .dwell => t.ph = .check

/-! ### The boundary software -/

/-- R182 and R185: OPEN (`dop = 0`) counts one more opening and succeeds; CLOSE (`dop = 3`) succeeds and leaves
`OPEN_COUNT` and every state of the block as they are. -/
def Obligations.OpenCountsAndCloseDoesNot : Prop :=
  (∀ c : List Byte, decode (.d 0 c) = .ok .devOpen ∧ decode (.d 3 c) = .ok .devClose) ∧
  ∀ s : State,
    exec .devOpen s = .next { s with openCount := s.openCount + 1, results := .success :: s.results } ∧
      exec .devClose s = .next { s with results := .success :: s.results }

/-- R183 (92 D25): READ returns the bytes of `ACK`, about which nothing is claimed, and touches no state of the block.
(That the returned bytes are a fresh draw is the model's, log entry 3.) -/
def Obligations.ReadReturnsTheAcknowledgement : Prop :=
  ∀ s : State, ∃ ack : List Byte,
    exec .devRead s = .next { s with ack := ack, results := .bytes ack :: s.results, draws := s.draws + 1 }

/-- R184 (the count of 288 is 92 D18): a WRITE of at least 288 characters, the first 288 of them hex, deposits the Frame
of rule R102 and returns 288; on a full slot it is held, with that Frame. R105 (92 D17): a non-hex character among the
first 288 makes it fail with the least index of one, at once, and nothing is written. (That a held WRITE joins the end of
the list of held calls, log entry 8, and that both views of `RDY` follow it at once, log entry 10, are the model's choices.
What a held WRITE returns is in `ViewsFollowTheFlagAndHeldCallsQueue`.) -/
def Obligations.WriteDepositsTheDecodedFrame : Prop :=
  ∀ (c : List Byte) (s : State), 288 ≤ c.length →
    (∀ k < 288, hexval (charAt c k) = none → (∀ j < k, (hexval (charAt c j)).isSome = true) →
      exec (.devWrite c) s = .next { s with results := .error (.invalidHexDigit k) :: s.results }) ∧
    ((∀ k < 288, (hexval (charAt c k)).isSome = true) → ∃ f : Frame,
      (∀ (r : Fin 8) (b : Fin 18) (hi lo : Nibble),
        hexval (charAt c (2 * (18 * r.val + b.val))) = some hi →
        hexval (charAt c (2 * (18 * r.val + b.val) + 1)) = some lo → (byteOf f r b).toNat = 16 * hi.toNat + lo.toNat) ∧
      (s.rdy = false → exec (.devWrite c) s =
        .next { s with pnd := f, rdy := true, rdyP := true, rdyS := true, results := .count 288 :: s.results }) ∧
      (s.rdy = true → exec (.devWrite c) s = .next { s with held := s.held ++ [{ frame := f, caller := .write }] }))

/-- R102: DECODE, its three outcomes: too short; else a non-hex character, the first one reported; else the whole Frame in
row-major order, the first character of a pair the high nibble. Nothing but the result returned is written. (The rejection of a
non-hex character is the spec's `NONHEX = reject`, 92 D17.) -/
def Obligations.DecodeAssemblesTheFrameRowMajor : Prop :=
  ∀ (c : List Byte) (s : State),
    (c.length < 288 → exec (.frameDecode c) s = .next { s with results := .error .insufficientData :: s.results }) ∧
    (288 ≤ c.length →
      (∀ k < 288, hexval (charAt c k) = none → (∀ j < k, (hexval (charAt c j)).isSome = true) →
        exec (.frameDecode c) s = .next { s with results := .error (.invalidHexDigit k) :: s.results }) ∧
      ((∀ k < 288, (hexval (charAt c k)).isSome = true) →
        ∃ f : Frame, exec (.frameDecode c) s = .next { s with results := .frame f :: s.results } ∧
          ∀ (r : Fin 8) (b : Fin 18) (hi lo : Nibble),
            hexval (charAt c (2 * (18 * r.val + b.val))) = some hi →
            hexval (charAt c (2 * (18 * r.val + b.val) + 1)) = some lo →
            (byteOf f r b).toNat = 16 * hi.toNat + lo.toNat))

/-- R103: fewer than 288 characters: rejected with `InsufficientData`, no Frame, no side effect, also when the slot is
full. -/
def Obligations.ShortPayloadIsRejectedWithoutEffect : Prop :=
  ∀ (c : List Byte) (s : State), c.length < 288 →
    exec (.devWrite c) s = .next { s with results := .error .insufficientData :: s.results } ∧
      exec (.frameDecode c) s = .next { s with results := .error .insufficientData :: s.results }

/-- R194: a call that raises writes no state: the error is its result and everything else is as before the call. -/
def Obligations.RaisingCallWritesNoState : Prop :=
  ∀ (c : List Byte) (s : State) (e : Error), decodeNow c s = .error e →
    exec (.devWrite c) s = .next { s with results := .error e :: s.results } ∧
      exec (.frameDecode c) s = .next { s with results := .error e :: s.results }

/-- R71: the 22 hex characters and their values, and no other; the byte values of the characters are ASCII's, from general
knowledge (93 G1, log entry 7). R72: a nibble pair makes the byte `16*hi + lo`, equivalently `hi` in bits 7..4 and `lo` in
bits 3..0, and the two digits of a byte give it back. -/
def Obligations.HexCharactersAndPairsGiveTheirBytes : Prop :=
  (∀ c : Byte,
    (∀ d : Nat, d < 10 → c.toNat = 0x30 + d → hexval c = some (BitVec.ofNat 4 d)) ∧
      (∀ d : Nat, d < 6 → c.toNat = 0x41 + d ∨ c.toNat = 0x61 + d → hexval c = some (BitVec.ofNat 4 (10 + d))) ∧
      (c.toNat < 0x30 ∨ (0x39 < c.toNat ∧ c.toNat < 0x41) ∨ (0x46 < c.toNat ∧ c.toNat < 0x61) ∨ 0x66 < c.toNat →
        hexval c = none)) ∧
  (∀ hi lo : Nibble,
    (byteOfNibbles hi lo).toNat = 16 * hi.toNat + lo.toNat ∧ (byteOfNibbles hi lo).extractLsb' 4 4 = hi ∧
      (byteOfNibbles hi lo).extractLsb' 0 4 = lo) ∧
  ∀ v : Byte, byteOfNibbles (v.extractLsb' 4 4) (v.extractLsb' 0 4) = v

/-- R107: upper and lower case may be mixed freely: payloads equal but for the case of hex letters decode alike, in both
settings of `NONHEX`. -/
def Obligations.DecodeIgnoresCase : Prop :=
  ∀ (mode : NonHex) (bad : Nat → Nibble) (c d : List Byte), c.map upperCase = d.map upperCase →
    decodePayload mode bad c = decodePayload mode bad d

/-- R104 (92 D18): characters 288 and beyond are not examined. -/
def Obligations.DecodeReadsOnlyTheFirst288 : Prop :=
  ∀ (c rest : List Byte) (s : State), c.length = 288 →
    exec (.frameDecode (c ++ rest)) s = exec (.frameDecode c) s ∧ exec (.devWrite (c ++ rest)) s = exec (.devWrite c) s

/-- R109 (2), derived in the spec: DECODE is onto the Frames: decoding the 288 upper-case hex digits of a Frame gives it
back, in both settings of `NONHEX`. -/
def Obligations.DecodeOfEncodeIsTheFrame : Prop :=
  ∀ (mode : NonHex) (bad : Nat → Nibble) (f : Frame),
    (encodeFrame f).length = 288 ∧ decodePayload mode bad (encodeFrame f) = .ok f

/-- R109 (3), derived in the spec: re-encoding a decoded 288-character payload gives the payload with its letters upper
case. -/
def Obligations.EncodeOfDecodeIsThePayloadInUpperCase : Prop :=
  ∀ (bad : Nat → Nibble) (c : List Byte) (f : Frame), c.length = 288 → decodePayload .reject bad c = .ok f →
    encodeFrame f = c.map upperCase

/-- R105, `NONHEX = draw` (93 U1): every payload of at least 288 characters decodes; each hex character gives its own
nibble and each other one the nibble drawn for it. -/
def Obligations.DrawModeGivesEveryBadCharacterItsNibble : Prop :=
  ∀ (bad : Nat → Nibble) (c : List Byte), 288 ≤ c.length → ∃ f : Frame, decodePayload .draw bad c = .ok f ∧
    ∀ (r : Fin 8) (b : Fin 18),
      (byteOf f r b).toNat =
        16 * ((hexval (charAt c (2 * (18 * r.val + b.val)))).getD (bad (2 * (18 * r.val + b.val)))).toNat +
          ((hexval (charAt c (2 * (18 * r.val + b.val) + 1))).getD (bad (2 * (18 * r.val + b.val) + 1))).toNat

/-! ### Encodings -/

/-- R84 to R88, R73: every operation, with every operand, is read back from its word, and its word is well formed. -/
def Obligations.DecodeReadsBackEveryEncodedOperation : Prop :=
  ∀ i : Instr, i.wf = true → decode (encode i) = .ok i ∧ (encode i).wf = true

/-- R85 (92 D15), R86 (92 D9), R87 (92 D20): every code of the three tables, written out, and the operation it stands for;
R86, R91: the thirteen position codes are told apart, and exactly 13, 14, 15 are reserved. R18 (92 D8): the codes of `RUN`,
which `run_state` carries (R90). R191 (92 D19): the numbers of the errors. -/
def Obligations.WordsOfTheTablesNameTheirOperations : Prop :=
  (∀ w : BitVec 1152, decode (.x 0b001 w) = .ok .start ∧ decode (.x 0b010 w) = .ok .stop ∧
    decode (.x 0b100 w) = .ok (.deposit (unpackFrame w)) ∧ decode (.x 0b000 w) = .error .noRequest) ∧
  (decode (.s 0b0000) = .ok .idle ∧ decode (.s 0b0001) = .ok .check ∧ decode (.s 0b0010) = .ok .take ∧
    decode (.s 0b0011) = .ok .advance ∧ decode (.s 0b0100) = .ok .shiftData ∧ decode (.s 0b0101) = .ok .shiftClkh ∧
    decode (.s 0b0110) = .ok .shiftClkl ∧ decode (.s 0b0111) = .ok .blankOn ∧ decode (.s 0b1000) = .ok .select ∧
    decode (.s 0b1001) = .ok .latchOn ∧ decode (.s 0b1010) = .ok .latchOff ∧ decode (.s 0b1011) = .ok .blankOff ∧
    decode (.s 0b1100) = .ok .dwell) ∧
  (∀ c : List Byte, decode (.d 0b00 c) = .ok .devOpen ∧ decode (.d 0b01 c) = .ok .devRead ∧
    decode (.d 0b10 c) = .ok (.devWrite c) ∧ decode (.d 0b11 c) = .ok .devClose) ∧
  (∀ p : Phase, positionOf (positionCode p) = some p) ∧
  (∀ code : BitVec 4, (positionOf code = none ↔ 13 ≤ code.toNat) ∧
    ∀ p : Phase, positionOf code = some p → positionCode p = code) ∧
  (∀ s : State, (observe s).runState = runCode s.run) ∧
  (runCode .stopped = 0b00 ∧ runCode .running = 0b01 ∧ runCode .stopping = 0b10 ∧ runCode .halted = 0b11) ∧
  (errorCode .insufficientData = 1 ∧ (∀ k : Nat, errorCode (.invalidHexDigit k) = 2) ∧
    errorCode .initializationFailure = 3 ∧ errorCode .taskStartFailure = 4)

/-- R73, R44 (92 D21): bit `i` of byte `F[r][b]` is bit `8*(18*r + b) + i` of the Frame word. -/
def Obligations.FrameWordHoldsByteOffInItsEightBits : Prop :=
  ∀ (f : Frame) (r : Fin 8) (b : Fin 18) (i : Fin 8),
    (packFrame f).getLsbD (8 * (18 * r.val + b.val) + i.val) = (byteOf f r b).getLsbD i.val

/-- R85 (92 D15) and R200 (92 D16): requests presented together are served one step each (the one step each is the model's,
log entry 22), in the order START, STOP, DEPOSIT, for each of the eight vectors; one with no request changes nothing. -/
def Obligations.RequestsAreServedStartStopDeposit : Prop :=
  ∀ (s : State) (w : BitVec 1152) (es : List Event),
    (s.script = .request 0b000 w :: es → step s = .next { s with script := es }) ∧
      (s.script = .request 0b001 w :: es → step s = exec .start { s with script := es }) ∧
      (s.script = .request 0b010 w :: es → step s = exec .stop { s with script := es }) ∧
      (s.script = .request 0b011 w :: es → step s = exec .start { s with script := .request 0b010 w :: es }) ∧
      (s.script = .request 0b100 w :: es → step s = exec (.deposit (unpackFrame w)) { s with script := es }) ∧
      (s.script = .request 0b101 w :: es → step s = exec .start { s with script := .request 0b100 w :: es }) ∧
      (s.script = .request 0b110 w :: es → step s = exec .stop { s with script := .request 0b100 w :: es }) ∧
      (s.script = .request 0b111 w :: es → step s = exec .start { s with script := .request 0b110 w :: es })

/-- A step runs the decoded instruction (R52: one operation of one agent; R20: `PH` selects the scanner's): where the next
step fetches a word that decodes, it is `exec` of the instruction on the state with the script's head taken off and the
requests left over put back. The scheme around it is the model's own: the script and its head are log entry 1, what is
fetched with no script left log entry 9, the requests put back log entry 22. -/
def Obligations.StepRunsTheDecodedInstruction : Prop :=
  ∀ (s : State) (w : OpWord) (i : Instr), fetch s = some w → decode w = .ok i → step s = exec i (requeue w (popped s))

/-! ### Frames: what an instruction leaves alone -/

/-- R205, R10 (the owner column), R24 (the "written by" column): each piece of state changes only at the instructions that
own it. Two clauses are the model's choices: that `ACK` changes only at READ (no source says what writes it, R183; log entry
3), and where the list of held calls grows (log entry 8). -/
def Obligations.EachPieceOfStateHasItsOwnWriters : Prop :=
  ∀ (i : Instr) (s t : State), exec i s = .next t →
    (t.data ≠ s.data → i = .shiftData) ∧
    (t.clk ≠ s.clk → i = .shiftClkh ∨ i = .shiftClkl) ∧
    (t.a ≠ s.a → i = .select) ∧
    (t.latch ≠ s.latch → i = .latchOn ∨ i = .latchOff) ∧
    (t.blank ≠ s.blank → i = .blankOn ∨ i = .blankOff) ∧
    (t.row ≠ s.row → i = .advance) ∧
    (t.bitcnt ≠ s.bitcnt → i = .advance ∨ i = .shiftClkl) ∧
    (t.act ≠ s.act → i = .take ∧ s.rdy = true) ∧
    (t.pnd ≠ s.pnd → s.rdy = false ∧ depositOperand i s = some t.pnd) ∧
    (t.rdy ≠ s.rdy → (i = .take ∧ s.rdy = true) ∨ (s.rdy = false ∧ (depositOperand i s).isSome = true)) ∧
    (t.run ≠ s.run → (i = .start ∧ s.run = .stopped ∧ t.run = .running) ∨
      (i = .stop ∧ s.run = .running ∧ t.run = .stopping) ∨ (i = .check ∧ s.run = .stopping ∧ t.run = .halted)) ∧
    (t.openCount ≠ s.openCount → i = .devOpen) ∧ (t.ack ≠ s.ack → i = .devRead) ∧
    (t.ph ≠ s.ph → i = .start ∨ ∃ p : Phase, i = microOp p) ∧
    (t.results ≠ s.results → i = .devOpen ∨ i = .devRead ∨ i = .devClose ∨ ∃ c, i = .devWrite c ∨ i = .frameDecode c) ∧
    (t.held ≠ s.held → s.rdy = true ∧ (depositOperand i s).isSome = true) ∧
    t.tmr = s.tmr ∧ t.linesHeld = s.linesHeld ∧ t.released = s.released ∧ t.hostResult = s.hostResult ∧
    t.script = s.script

/-- Frame of the scanner's micro-operations other than TAKE (43 R148, 42 R130): every byte of both frame stores, the flag,
the boundary software's state and the timer are unchanged. -/
def Obligations.ScanningLeavesTheFrameStoresAlone : Prop :=
  ∀ (p : Phase) (s t : State), p ≠ .take → exec (microOp p) s = .next t →
    (∀ (r : Fin 8) (b : Fin 18), byteOf t.act r b = byteOf s.act r b ∧ byteOf t.pnd r b = byteOf s.pnd r b) ∧
      t.rdy = s.rdy ∧ t.rdyP = s.rdyP ∧ t.rdyS = s.rdyS ∧ t.openCount = s.openCount ∧ t.ack = s.ack ∧
      t.results = s.results ∧ t.held = s.held ∧ t.tmr = s.tmr ∧ t.draws = s.draws

/-- Frame of the producer's operations and the host's requests (60 R204, R205): every byte of `ACT`, every pin, the row and
the bit counter are unchanged; `PH` and `RUN` change at most by START and STOP; every byte of `PND` is unchanged unless the
instruction deposits into the empty slot. -/
def Obligations.ProducerAndHostNeverTouchTheDisplay : Prop :=
  ∀ (i : Instr) (s t : State), (∀ p : Phase, i ≠ microOp p) → exec i s = .next t →
    (∀ (r : Fin 8) (b : Fin 18), byteOf t.act r b = byteOf s.act r b) ∧
      t.data = s.data ∧ t.clk = s.clk ∧ t.a = s.a ∧ t.latch = s.latch ∧ t.blank = s.blank ∧ t.row = s.row ∧
      t.bitcnt = s.bitcnt ∧ (i ≠ .start → t.ph = s.ph) ∧ (i ≠ .start → i ≠ .stop → t.run = s.run) ∧
      (s.rdy = true ∨ depositOperand i s = none →
        (∀ (r : Fin 8) (b : Fin 18), byteOf t.pnd r b = byteOf s.pnd r b) ∧ t.rdy = s.rdy)

/-- R162: no micro-operation of the scanner raises anything: each answers a next state and reports no result to
anybody. -/
def Obligations.ScannerNeverRaises : Prop :=
  ∀ (p : Phase) (s : State), ∃ t : State,
    exec (microOp p) s = .next t ∧ t.results = s.results ∧ t.hostResult = s.hostResult

/-- The machine never stops: every step, of any agent and at either level, answers a next state (the spec gives the block
no fault, 43 R162, and a held request is not one, 00 R262). And it returns at most one result, without losing one returned
before, so that R8's observation, sampled after every step, shows every result (the list of results is the model's, log
entry 20). -/
def Obligations.EveryStepAnswersANextState : Prop :=
  ∀ s : State, ∃ t : State, step s = .next t ∧
    (t.results = s.results ∨ ∃ r : CallResult, t.results = r :: s.results ∧ (observe t).results = r :: (observe s).results)

/-! ### Invariants -/

/-- R250 to R252, R255, R28 at reset (derived in the spec). -/
def Obligations.InvariantHoldsAtReset : Prop := BlockInv State.reset

/-- R250, R251, R252, R255 (first half) and R28 (derived in the spec): every step of every agent, at either level, from
every state that meets the invariant, keeps it. -/
def Obligations.InvariantIsKeptByEveryStep : Prop := ∀ s t : State, BlockInv s → step s = .next t → BlockInv t

/-- R255, second half (derived in the spec): once a row has been committed, `A` carries its code whenever the display is
not blanked; kept by every step, a reset apart. -/
def Obligations.SelectedRowIsTheCommittedRow : Prop :=
  ∀ (s t : State) (last : Option (BitVec 3)), BlockInv s → CommittedInv s last → resets s = false → step s = .next t →
    CommittedInv t (commitRow s t last)

/-- R233: the row-select lines and the latch change only while `BLANK = 1`, before and after the step. R75: "`DATA` is never
written while `CLK = 1`"; every step of every agent at either level, a reset apart. And R75's bit pulse: each position of the
row word is `DATA <- W[n]`, `CLK <- 1`, `CLK <- 0`, in this order, whatever `DATA` was. -/
def Obligations.PinsMoveOnlyInsideTheirBrackets : Prop :=
  (∀ s t : State, BlockInv s → resets s = false → step s = .next t →
    (t.a ≠ s.a ∨ t.latch ≠ s.latch → s.blank = true ∧ t.blank = true) ∧
      (t.data ≠ s.data → s.clk = false ∧ t.clk = false)) ∧
  ∀ (s : State) (r : Fin 8) (b : Fin 18) (i : Fin 8),
    s.ph = .shiftData → s.row.toNat = r.val → s.bitcnt.toNat = 8 * b.val + i.val →
      ∃ t u v : State, scan s = .next t ∧ scan t = .next u ∧ scan u = .next v ∧
        t.data = (byteOf s.act r b).getLsbD (7 - i.val) ∧ t.clk = s.clk ∧ u.data = t.data ∧ u.clk = true ∧
        v.data = t.data ∧ v.clk = false

/-- R159, R221 (derived in the spec; 92 D8): a halted scanner stays halted, with its pins, its row and its Frame, until a
reset. -/
def Obligations.OnlyResetLeavesHalted : Prop :=
  ∀ s t : State, BlockInv s → s.run = .halted → resets s = false → step s = .next t →
    t.run = .halted ∧ t.ph = .idle ∧ t.data = s.data ∧ t.clk = s.clk ∧ t.a = s.a ∧ t.latch = s.latch ∧
      t.blank = s.blank ∧ t.row = s.row ∧ t.act = s.act

/-! ### The hand-off -/

/-- R15, R16: the flag rises only where a DEPOSIT fills the slot and falls only where TAKE empties it or at a reset, and
while it stays up the waiting Frame is not touched. -/
def Obligations.ReadyFlagMovesOnlyAtDepositAndTake : Prop :=
  ∀ s t : State, ViewInv s → step s = .next t → resets s = false →
    (s.rdy = false → t.rdy = true → incoming s = some t.pnd) ∧
      (s.rdy = true → t.rdy = false → outgoing s = some s.pnd ∧ t.act = s.pnd) ∧
      (s.rdy = true → t.rdy = true → t.pnd = s.pnd) ∧ (t.act ≠ s.act → outgoing s = some t.act)

/-- R56, R254 (derived in the spec): exactly-once, in-order delivery. Along every run without a reset, from every state
that meets R28, the Frame that waited at the start and the Frames deposited are, in order, the Frames taken and the one
that still waits; and `ACT` is the last Frame taken, whole. -/
def Obligations.HandOffIsExactlyOnceAndInOrder : Prop :=
  ∀ (s t : State) (ins outs : List Frame), ViewInv s → Delivers s ins outs t →
    waiting s ++ ins = outs ++ waiting t ∧ t.act = outs.getLast?.getD s.act

/-- R253 (derived in the spec): from reset, under any script of the agents, resets included, `ACT` is the test pattern or
the whole operand of a DEPOSIT made before; never a mixture. -/
def Obligations.ActiveFrameIsThePatternOrADepositedFrame : Prop :=
  ∀ (es : List Event) (ins : List Frame) (t : State), Reaches { State.reset with script := es } ins t →
    t.act = Config.hardware.initFrame ∨ t.act ∈ ins

/-- R14, R16 (c), R61 (c) and 93 U7 (92 D21): the bytes of `PND` while the slot is empty reach nothing: two states that
differ only in them step to states that differ at most in them. -/
def Obligations.DeadPendingFrameReachesNothing : Prop :=
  ∀ s t s' t' : State, SameButDeadPnd s t → step s = .next s' → step t = .next t' → SameButDeadPnd s' t'

/-- R8, R61 (c), R14 (derived): two states that differ only in the dead bytes of `PND` have the same pin trace, for ever. -/
def Obligations.DeadPendingFrameIsInvisibleInThePinTrace : Prop :=
  ∀ (n : Nat) (s t : State), SameButDeadPnd s t → pinTrace n s = pinTrace n t

/-- R59, R119 (derived: from the micro-program and the model's default schedule, log entry 9): with the scanner running
and no other agent moving, a DEPOSIT held on a full slot completes within one scan cycle and one step. R184: if it is a
WRITE's, the WRITE returns 288 then; a bare DEPOSIT returns nothing. -/
def Obligations.HeldDepositCompletesUnderARunningScanner : Prop :=
  ∀ (s : State) (h : HeldCall) (hs : List HeldCall), BlockInv s → s.run = .running → s.script = [] → s.held = h :: hs →
    s.rdy = true → ∃ (k : Nat) (t : State), k ≤ 442 ∧ Host.Core.run Sys2Proof.core k s = .next t ∧ t.pnd = h.frame ∧
      t.rdy = true ∧ t.held = hs ∧ t.act = s.pnd ∧ (h.caller = .write → t.results = .count 288 :: s.results) ∧
      (h.caller = .port → t.results = s.results)

/-! ### The waveform, the cycle, the display -/

/-- R134 (derived in the spec): the serializer's 432 steps: for `n = 0 .. 143` in turn `DATA <- W(ROW)[n]`, `CLK <- 1`,
`CLK <- 0`, and after the last BLANK_ON with the counter at 0; no other state changes. -/
def Obligations.SerializerEmitsTheRowWord : Prop :=
  ∀ s : State, s.ph = .shiftData → s.bitcnt = 0 → s.clk = false →
    ∀ (n : Nat) (level : Bool) (r : Fin 8) (b : Fin 18) (i : Fin 8), n = 8 * b.val + i.val → s.row.toNat = r.val →
      level = (byteOf s.act r b).getLsbD (7 - i.val) →
      scanRun (3 * n + 1) s = .next { s with data := level, bitcnt := BitVec.ofNat 8 n, ph := .shiftClkh } ∧
      scanRun (3 * n + 2) s = .next { s with data := level, bitcnt := BitVec.ofNat 8 n, clk := true, ph := .shiftClkl } ∧
      scanRun (3 * n + 3) s = .next { s with
        data := level, bitcnt := if n = 143 then 0 else BitVec.ofNat 8 (n + 1),
        ph := if n = 143 then .blankOn else .shiftData }

/-- R160, R120, R152, R154 (derived in the spec): one whole scan cycle of 441 steps from CHECK: the pending Frame is taken
if there is one, the row advances, its last bit stays on `DATA`, its code on `A`, and the cycle ends un-blanked at the
next CHECK. -/
def Obligations.ScanCycleTakesShowsAndReturns : Prop :=
  ∀ s : State, s.ph = .check → s.run = .running → s.rdyP = s.rdy → s.rdyS = s.rdy →
    ∀ (f : Frame) (r : Fin 8), f = (if s.rdy = true then s.pnd else s.act) → r.val = (s.row.toNat + 1) % 8 →
      scanRun 441 s = .next { s with
        act := f, rdy := false, rdyP := false, rdyS := false, row := BitVec.ofNat 3 r.val, bitcnt := 0,
        data := (byteOf f r 17).getLsbD 0, clk := false, a := BitVec.ofNat 3 r.val, latch := false, blank := false,
        ph := .check }

/-- R163 (derived in the spec, from 92 D6): from reset and START, with no deposit, the cycle after `k` others serializes and
selects row `k` modulo 8. (One run, from one state; that every cycle from CHECK advances the row by one, from every state, is
`ScanCycleTakesShowsAndReturns`.) -/
def Obligations.RowsAreShownInOrderFromZero : Prop :=
  ∃ s : State, exec .start State.reset = .next s ∧ ∀ k : Nat, ∃ t : State,
    scanRun (441 * (k + 1)) s = .next t ∧ t.row.toNat = k % 8 ∧ t.a = t.row ∧ t.act = Config.hardware.initFrame ∧
      t.blank = false

/-- R161, R147 (derived in the spec): after a stop request the scanner executes at most the rest of the cycle and one
CHECK, 441 steps, and is then halted with `CLK`, `LATCH` and `BLANK` at 0 and, if it was inside a cycle, with the code of
the current row on `A`; if it stood at CHECK, `A` is unchanged. -/
def Obligations.StopRequestEndsHaltedAndUnblanked : Prop :=
  ∀ s : State, BlockInv s → s.run = .stopping → ∃ (k : Nat) (t : State), k ≤ 441 ∧ scanRun k s = .next t ∧
    t.run = .halted ∧ t.ph = .idle ∧ t.clk = false ∧ t.latch = false ∧ t.blank = false ∧ (s.ph ≠ .check → t.a = t.row) ∧
    (s.ph = .check → t.a = s.a)

/-- R139 (derived in the spec; the observer's structure is 93 G2): whatever the shift chain and the latches held, 436
steps after ADVANCE begins the chain holds the row's word, first bit in the last stage, the latches the same, and `A` the
row's code. -/
def Obligations.DisplayLatchesTheRowWord : Prop :=
  ∀ (s : State) (d : Display), s.ph = .advance → s.clk = false → s.latch = false → ∃ (t : State) (e : Display),
    watchRun 436 s d = some (t, e) ∧ t.a = t.row ∧ t.row.toNat = (s.row.toNat + 1) % 8 ∧
      ∀ (r : Fin 8) (b : Fin 18) (i : Fin 8), t.row.toNat = r.val →
        e.sr.getLsbD (143 - (8 * b.val + i.val)) = (byteOf s.act r b).getLsbD (7 - i.val) ∧
        e.ol.getLsbD (143 - (8 * b.val + i.val)) = (byteOf s.act r b).getLsbD (7 - i.val)

/-! ### The tick level -/

/-- R200 (92 D16): with one clock, every tick without reset is the untimed interleaving scanner step, START, STOP, DEPOSIT
of the requests presented, but for the hold timer: in IDLE too, where the scanner's step changes nothing, and during a hold,
where it takes none. (A DEPOSIT presented with `dep_ready = 0` takes no part, R201.) -/
def Obligations.TickIsAnInterleavingOfUntimedSteps : Prop :=
  ∀ (c : Config) (p : Ports) (s : State), OneClock s → p.rst = false →
    ∃ t u : State,
      tick c p SyncPass.oneClock s = .next t ∧
      andThen (if State.due s = true then scan s else .next s) (fun s1 =>
        andThen (if p.xreq.getLsbD 0 then exec .start s1 else .next s1) fun s2 =>
        andThen (if p.xreq.getLsbD 1 then exec .stop s2 else .next s2) fun s3 =>
          if p.xreq.getLsbD 2 = true ∧ s.rdy = false then exec (.deposit (unpackFrame p.depFrame)) s3 else .next s3) =
        .next u ∧
      t = { u with tmr := t.tmr }

/-- R201 (92 D16), 95 VS10: a DEPOSIT presented in the tick in which TAKE empties the slot stays held in that tick and is
accepted in the next. -/
def Obligations.DepositInTheTickOfATakeWaitsOneTick : Prop :=
  ∀ (c : Config) (w : BitVec 1152) (s : State), OneClock s → s.rdy = true → s.ph = .take → s.tmr = 0 →
    s.held = [] → ∃ t u : State,
      tick c { rst := false, xreq := 0b100, depFrame := w } SyncPass.oneClock s = .next t ∧
        t.rdy = false ∧ t.act = s.pnd ∧ t.pnd = s.pnd ∧ t.held = [] ∧
      tick c { rst := false, xreq := 0b100, depFrame := w } SyncPass.oneClock t = .next u ∧
        u.rdy = true ∧ u.pnd = unpackFrame w ∧ u.act = s.pnd ∧ u.held = []

/-- R240 (92 D14): after micro-operation `m` the next one executes `HOLD(m)` ticks later, and in between the pins and all
else keep their values; DWELL with a stop pending apart. (The value of the timer in the conclusion is the model's encoding,
log entry 14: of `TMR` only the expiry is visible, R22.) The holds themselves are R240's table, written out. -/
def Obligations.NextMicroOperationComesAfterTheHold : Prop :=
  (∀ c : Config, hold c .check = 1 ∧ hold c .take = 1 ∧ hold c .advance = 1 ∧ hold c .shiftData = c.tSetup ∧
    hold c .shiftClkh = c.tClkh ∧ hold c .shiftClkl = c.tClkl ∧ hold c .blankOn = c.tBlank ∧ hold c .select = c.tSel ∧
    hold c .latchOn = c.tLatch ∧ hold c .latchOff = c.tRel ∧ hold c .blankOff = 1 ∧ hold c .dwell = c.dwell) ∧
  ∀ (c : Config) (s t : State), c.wf = true → OneClock s → s.tmr = 0 → s.ph ≠ .idle →
    (s.ph = .dwell → s.run ≠ .stopping) → exec (microOp s.ph) s = .next t →
      ∀ k : Nat, 1 ≤ k → k ≤ hold c s.ph → quietTicks c k s = .next { t with tmr := hold c s.ph - k }

/-- R158, R240 (92 D11): a stop pending in the hold of DWELL ends it: CHECK executes in the next tick and halts. -/
def Obligations.StopEndsTheDwellAtTheNextTick : Prop :=
  ∀ (c : Config) (s : State), OneClock s → s.ph = .check → s.run = .stopping →
    quietTicks c 1 s = .next { s with run := .halted, ph := .idle, tmr := 0 }

/-- R241 (derived in the spec): a scan cycle lasts `3 + 144*(T_SETUP + T_CLKH + T_CLKL) + T_BLANK + T_SEL + T_LATCH +
T_REL + 1 + DWELL` ticks, whatever the parameters, and 2440 with the defaults; at its end the block is where the untimed
cycle leaves it. -/
def Obligations.ScanCycleLastsItsTicks : Prop :=
  cycleTicks Config.hardware = 2440 ∧
  ∀ (c : Config) (s : State), c.wf = true → OneClock s → s.ph = .check → s.run = .running → s.tmr = 0 →
    quietTicks c (3 + 144 * (c.tSetup + c.tClkh + c.tClkl) + c.tBlank + c.tSel + c.tLatch + c.tRel + 1 + c.dwell) s =
      scanRun 441 s

/-- R28, R55 (92 D4): with any lag of the synchronisers, a tick without reset is a sequence of at most four untimed steps
on the scanner's side of the flag: the micro-operation if one is due, START, STOP, and the DEPOSIT whose flag becomes
visible to the scanner; dead bytes of `PND` and the timer apart. -/
def Obligations.LaggingTickRefinesTheUntimedSteps : Prop :=
  ∀ (c : Config) (p : Ports) (pass : SyncPass) (s t : State), ViewInv s → p.rst = false →
    tick c p pass s = .next t → ∃ u : State,
      andThen (if s.ph ≠ .idle ∧ State.due s = true then scan (untimedView s) else .next (untimedView s)) (fun s1 =>
        andThen (if p.xreq.getLsbD 0 then exec .start s1 else .next s1) fun s2 =>
        andThen (if p.xreq.getLsbD 1 then exec .stop s2 else .next s2) fun s3 =>
          if s3.rdy = false ∧ t.rdyS = true then exec (.deposit t.pnd) s3 else .next s3) = .next u ∧
      SameButDeadPnd u (untimedView t)

/-! ### The host -/

/-- R226, R193: a bring-up whose `k`-th acquisition is refused touches no state of the block, releases the lines acquired
so far in reverse order and reports `InitializationFailure`; one whose scan loop cannot be started leaves the block in
reset state and releases everything in reverse; else the scanner runs from reset state and all seven lines are held. R227
(derived in the spec): at teardown the lines are released, in reverse order of acquisition, only once the scanner has
halted. The model's own: that a bring-up is one step and begins with no line held, whatever lines an earlier one left (log
entry 13), that both views of `RDY` are 0 after its reset (log entry 10), and that the boundary software's state stays (log
entry 11). -/
def Obligations.LinesAreReleasedInReverseOrderOfAcquisition : Prop :=
  ∀ (plan : BringUp) (s : State) (es : List Event), plan.wf = true →
    (s.script = .bringUp plan :: es → ∀ k : Nat, plan.refused = some k → step s = .next { s with
      script := es, linesHeld := [], released := (plan.order.take k).reverse,
      hostResult := some (.error .initializationFailure) }) ∧
    (s.script = .bringUp plan :: es → plan.refused = none → plan.taskStarts = false → step s = .next { s with
      script := es, act := Config.hardware.initFrame, pnd := Config.freeFrame s.draws, rdy := false, row := 7,
      run := .stopped, ph := .idle, bitcnt := 0, data := false, clk := false, a := 0, latch := false, blank := false,
      tmr := 0, rdyP := false, rdyS := false, draws := s.draws + 1, linesHeld := [], released := plan.order.reverse,
      hostResult := some (.error .taskStartFailure) }) ∧
    (s.script = .bringUp plan :: es → plan.refused = none → plan.taskStarts = true →
      plan.order.reverse.length = 7 ∧ step s = .next { s with
        script := es, act := Config.hardware.initFrame, pnd := Config.freeFrame s.draws, rdy := false, row := 7,
        run := .running, ph := .check, bitcnt := 0, data := false, clk := false, a := 0, latch := false, blank := false,
        tmr := 0, rdyP := false, rdyS := false, draws := s.draws + 1, linesHeld := plan.order.reverse,
        hostResult := some .success }) ∧
    (s.script = .release :: es →
      (s.run = .halted → step s = .next { s with script := es, released := s.linesHeld, linesHeld := [] }) ∧
        (s.run ≠ .halted → step s = .next { s with script := es }))
end

