-- ==== Sys2Proof/Laws/State.lean ====
section
/-! SUPPORT. Each field of the state after each named update of Machine/Flags.lean and Machine/Ops.lean, true by
definition: what a proof uses instead of unfolding a record update. -/

namespace Sys2Proof.Machine

/-! ### `State.setRdy` -/

@[simp] theorem State.setRdy_act (v : Bool) (s : State) : (State.setRdy v s).act = s.act := rfl
@[simp] theorem State.setRdy_pnd (v : Bool) (s : State) : (State.setRdy v s).pnd = s.pnd := rfl
@[simp] theorem State.setRdy_rdy (v : Bool) (s : State) : (State.setRdy v s).rdy = v := rfl
@[simp] theorem State.setRdy_row (v : Bool) (s : State) : (State.setRdy v s).row = s.row := rfl
@[simp] theorem State.setRdy_run (v : Bool) (s : State) : (State.setRdy v s).run = s.run := rfl
@[simp] theorem State.setRdy_ph (v : Bool) (s : State) : (State.setRdy v s).ph = s.ph := rfl
@[simp] theorem State.setRdy_bitcnt (v : Bool) (s : State) : (State.setRdy v s).bitcnt = s.bitcnt := rfl
@[simp] theorem State.setRdy_data (v : Bool) (s : State) : (State.setRdy v s).data = s.data := rfl
@[simp] theorem State.setRdy_clk (v : Bool) (s : State) : (State.setRdy v s).clk = s.clk := rfl
@[simp] theorem State.setRdy_a (v : Bool) (s : State) : (State.setRdy v s).a = s.a := rfl
@[simp] theorem State.setRdy_latch (v : Bool) (s : State) : (State.setRdy v s).latch = s.latch := rfl
@[simp] theorem State.setRdy_blank (v : Bool) (s : State) : (State.setRdy v s).blank = s.blank := rfl
@[simp] theorem State.setRdy_tmr (v : Bool) (s : State) : (State.setRdy v s).tmr = s.tmr := rfl
@[simp] theorem State.setRdy_rdyP (v : Bool) (s : State) : (State.setRdy v s).rdyP = v := rfl
@[simp] theorem State.setRdy_rdyS (v : Bool) (s : State) : (State.setRdy v s).rdyS = v := rfl
@[simp] theorem State.setRdy_openCount (v : Bool) (s : State) : (State.setRdy v s).openCount = s.openCount := rfl
@[simp] theorem State.setRdy_ack (v : Bool) (s : State) : (State.setRdy v s).ack = s.ack := rfl
@[simp] theorem State.setRdy_results (v : Bool) (s : State) : (State.setRdy v s).results = s.results := rfl
@[simp] theorem State.setRdy_held (v : Bool) (s : State) : (State.setRdy v s).held = s.held := rfl
@[simp] theorem State.setRdy_linesHeld (v : Bool) (s : State) : (State.setRdy v s).linesHeld = s.linesHeld := rfl
@[simp] theorem State.setRdy_released (v : Bool) (s : State) : (State.setRdy v s).released = s.released := rfl
@[simp] theorem State.setRdy_hostResult (v : Bool) (s : State) : (State.setRdy v s).hostResult = s.hostResult := rfl
@[simp] theorem State.setRdy_script (v : Bool) (s : State) : (State.setRdy v s).script = s.script := rfl
@[simp] theorem State.setRdy_draws (v : Bool) (s : State) : (State.setRdy v s).draws = s.draws := rfl

/-! ### `State.goto` -/

@[simp] theorem State.goto_act (p : Phase) (s : State) : (State.goto p s).act = s.act := rfl
@[simp] theorem State.goto_pnd (p : Phase) (s : State) : (State.goto p s).pnd = s.pnd := rfl
@[simp] theorem State.goto_rdy (p : Phase) (s : State) : (State.goto p s).rdy = s.rdy := rfl
@[simp] theorem State.goto_row (p : Phase) (s : State) : (State.goto p s).row = s.row := rfl
@[simp] theorem State.goto_run (p : Phase) (s : State) : (State.goto p s).run = s.run := rfl
@[simp] theorem State.goto_ph (p : Phase) (s : State) : (State.goto p s).ph = p := rfl
@[simp] theorem State.goto_bitcnt (p : Phase) (s : State) : (State.goto p s).bitcnt = s.bitcnt := rfl
@[simp] theorem State.goto_data (p : Phase) (s : State) : (State.goto p s).data = s.data := rfl
@[simp] theorem State.goto_clk (p : Phase) (s : State) : (State.goto p s).clk = s.clk := rfl
@[simp] theorem State.goto_a (p : Phase) (s : State) : (State.goto p s).a = s.a := rfl
@[simp] theorem State.goto_latch (p : Phase) (s : State) : (State.goto p s).latch = s.latch := rfl
@[simp] theorem State.goto_blank (p : Phase) (s : State) : (State.goto p s).blank = s.blank := rfl
@[simp] theorem State.goto_tmr (p : Phase) (s : State) : (State.goto p s).tmr = s.tmr := rfl
@[simp] theorem State.goto_rdyP (p : Phase) (s : State) : (State.goto p s).rdyP = s.rdyP := rfl
@[simp] theorem State.goto_rdyS (p : Phase) (s : State) : (State.goto p s).rdyS = s.rdyS := rfl
@[simp] theorem State.goto_openCount (p : Phase) (s : State) : (State.goto p s).openCount = s.openCount := rfl
@[simp] theorem State.goto_ack (p : Phase) (s : State) : (State.goto p s).ack = s.ack := rfl
@[simp] theorem State.goto_results (p : Phase) (s : State) : (State.goto p s).results = s.results := rfl
@[simp] theorem State.goto_held (p : Phase) (s : State) : (State.goto p s).held = s.held := rfl
@[simp] theorem State.goto_linesHeld (p : Phase) (s : State) : (State.goto p s).linesHeld = s.linesHeld := rfl
@[simp] theorem State.goto_released (p : Phase) (s : State) : (State.goto p s).released = s.released := rfl
@[simp] theorem State.goto_hostResult (p : Phase) (s : State) : (State.goto p s).hostResult = s.hostResult := rfl
@[simp] theorem State.goto_script (p : Phase) (s : State) : (State.goto p s).script = s.script := rfl
@[simp] theorem State.goto_draws (p : Phase) (s : State) : (State.goto p s).draws = s.draws := rfl

/-! ### `State.setBitcnt` -/

@[simp] theorem State.setBitcnt_act (n : BitVec 8) (s : State) : (State.setBitcnt n s).act = s.act := rfl
@[simp] theorem State.setBitcnt_pnd (n : BitVec 8) (s : State) : (State.setBitcnt n s).pnd = s.pnd := rfl
@[simp] theorem State.setBitcnt_rdy (n : BitVec 8) (s : State) : (State.setBitcnt n s).rdy = s.rdy := rfl
@[simp] theorem State.setBitcnt_row (n : BitVec 8) (s : State) : (State.setBitcnt n s).row = s.row := rfl
@[simp] theorem State.setBitcnt_run (n : BitVec 8) (s : State) : (State.setBitcnt n s).run = s.run := rfl
@[simp] theorem State.setBitcnt_ph (n : BitVec 8) (s : State) : (State.setBitcnt n s).ph = s.ph := rfl
@[simp] theorem State.setBitcnt_bitcnt (n : BitVec 8) (s : State) : (State.setBitcnt n s).bitcnt = n := rfl
@[simp] theorem State.setBitcnt_data (n : BitVec 8) (s : State) : (State.setBitcnt n s).data = s.data := rfl
@[simp] theorem State.setBitcnt_clk (n : BitVec 8) (s : State) : (State.setBitcnt n s).clk = s.clk := rfl
@[simp] theorem State.setBitcnt_a (n : BitVec 8) (s : State) : (State.setBitcnt n s).a = s.a := rfl
@[simp] theorem State.setBitcnt_latch (n : BitVec 8) (s : State) : (State.setBitcnt n s).latch = s.latch := rfl
@[simp] theorem State.setBitcnt_blank (n : BitVec 8) (s : State) : (State.setBitcnt n s).blank = s.blank := rfl
@[simp] theorem State.setBitcnt_tmr (n : BitVec 8) (s : State) : (State.setBitcnt n s).tmr = s.tmr := rfl
@[simp] theorem State.setBitcnt_rdyP (n : BitVec 8) (s : State) : (State.setBitcnt n s).rdyP = s.rdyP := rfl
@[simp] theorem State.setBitcnt_rdyS (n : BitVec 8) (s : State) : (State.setBitcnt n s).rdyS = s.rdyS := rfl
@[simp] theorem State.setBitcnt_openCount (n : BitVec 8) (s : State) : (State.setBitcnt n s).openCount = s.openCount := rfl
@[simp] theorem State.setBitcnt_ack (n : BitVec 8) (s : State) : (State.setBitcnt n s).ack = s.ack := rfl
@[simp] theorem State.setBitcnt_results (n : BitVec 8) (s : State) : (State.setBitcnt n s).results = s.results := rfl
@[simp] theorem State.setBitcnt_held (n : BitVec 8) (s : State) : (State.setBitcnt n s).held = s.held := rfl
@[simp] theorem State.setBitcnt_linesHeld (n : BitVec 8) (s : State) : (State.setBitcnt n s).linesHeld = s.linesHeld := rfl
@[simp] theorem State.setBitcnt_released (n : BitVec 8) (s : State) : (State.setBitcnt n s).released = s.released := rfl
@[simp] theorem State.setBitcnt_hostResult (n : BitVec 8) (s : State) : (State.setBitcnt n s).hostResult = s.hostResult := rfl
@[simp] theorem State.setBitcnt_script (n : BitVec 8) (s : State) : (State.setBitcnt n s).script = s.script := rfl
@[simp] theorem State.setBitcnt_draws (n : BitVec 8) (s : State) : (State.setBitcnt n s).draws = s.draws := rfl

/-! ### `State.setRow` -/

@[simp] theorem State.setRow_act (r : BitVec 3) (s : State) : (State.setRow r s).act = s.act := rfl
@[simp] theorem State.setRow_pnd (r : BitVec 3) (s : State) : (State.setRow r s).pnd = s.pnd := rfl
@[simp] theorem State.setRow_rdy (r : BitVec 3) (s : State) : (State.setRow r s).rdy = s.rdy := rfl
@[simp] theorem State.setRow_row (r : BitVec 3) (s : State) : (State.setRow r s).row = r := rfl
@[simp] theorem State.setRow_run (r : BitVec 3) (s : State) : (State.setRow r s).run = s.run := rfl
@[simp] theorem State.setRow_ph (r : BitVec 3) (s : State) : (State.setRow r s).ph = s.ph := rfl
@[simp] theorem State.setRow_bitcnt (r : BitVec 3) (s : State) : (State.setRow r s).bitcnt = s.bitcnt := rfl
@[simp] theorem State.setRow_data (r : BitVec 3) (s : State) : (State.setRow r s).data = s.data := rfl
@[simp] theorem State.setRow_clk (r : BitVec 3) (s : State) : (State.setRow r s).clk = s.clk := rfl
@[simp] theorem State.setRow_a (r : BitVec 3) (s : State) : (State.setRow r s).a = s.a := rfl
@[simp] theorem State.setRow_latch (r : BitVec 3) (s : State) : (State.setRow r s).latch = s.latch := rfl
@[simp] theorem State.setRow_blank (r : BitVec 3) (s : State) : (State.setRow r s).blank = s.blank := rfl
@[simp] theorem State.setRow_tmr (r : BitVec 3) (s : State) : (State.setRow r s).tmr = s.tmr := rfl
@[simp] theorem State.setRow_rdyP (r : BitVec 3) (s : State) : (State.setRow r s).rdyP = s.rdyP := rfl
@[simp] theorem State.setRow_rdyS (r : BitVec 3) (s : State) : (State.setRow r s).rdyS = s.rdyS := rfl
@[simp] theorem State.setRow_openCount (r : BitVec 3) (s : State) : (State.setRow r s).openCount = s.openCount := rfl
@[simp] theorem State.setRow_ack (r : BitVec 3) (s : State) : (State.setRow r s).ack = s.ack := rfl
@[simp] theorem State.setRow_results (r : BitVec 3) (s : State) : (State.setRow r s).results = s.results := rfl
@[simp] theorem State.setRow_held (r : BitVec 3) (s : State) : (State.setRow r s).held = s.held := rfl
@[simp] theorem State.setRow_linesHeld (r : BitVec 3) (s : State) : (State.setRow r s).linesHeld = s.linesHeld := rfl
@[simp] theorem State.setRow_released (r : BitVec 3) (s : State) : (State.setRow r s).released = s.released := rfl
@[simp] theorem State.setRow_hostResult (r : BitVec 3) (s : State) : (State.setRow r s).hostResult = s.hostResult := rfl
@[simp] theorem State.setRow_script (r : BitVec 3) (s : State) : (State.setRow r s).script = s.script := rfl
@[simp] theorem State.setRow_draws (r : BitVec 3) (s : State) : (State.setRow r s).draws = s.draws := rfl

/-! ### `State.setRun` -/

@[simp] theorem State.setRun_act (r : RunState) (s : State) : (State.setRun r s).act = s.act := rfl
@[simp] theorem State.setRun_pnd (r : RunState) (s : State) : (State.setRun r s).pnd = s.pnd := rfl
@[simp] theorem State.setRun_rdy (r : RunState) (s : State) : (State.setRun r s).rdy = s.rdy := rfl
@[simp] theorem State.setRun_row (r : RunState) (s : State) : (State.setRun r s).row = s.row := rfl
@[simp] theorem State.setRun_run (r : RunState) (s : State) : (State.setRun r s).run = r := rfl
@[simp] theorem State.setRun_ph (r : RunState) (s : State) : (State.setRun r s).ph = s.ph := rfl
@[simp] theorem State.setRun_bitcnt (r : RunState) (s : State) : (State.setRun r s).bitcnt = s.bitcnt := rfl
@[simp] theorem State.setRun_data (r : RunState) (s : State) : (State.setRun r s).data = s.data := rfl
@[simp] theorem State.setRun_clk (r : RunState) (s : State) : (State.setRun r s).clk = s.clk := rfl
@[simp] theorem State.setRun_a (r : RunState) (s : State) : (State.setRun r s).a = s.a := rfl
@[simp] theorem State.setRun_latch (r : RunState) (s : State) : (State.setRun r s).latch = s.latch := rfl
@[simp] theorem State.setRun_blank (r : RunState) (s : State) : (State.setRun r s).blank = s.blank := rfl
@[simp] theorem State.setRun_tmr (r : RunState) (s : State) : (State.setRun r s).tmr = s.tmr := rfl
@[simp] theorem State.setRun_rdyP (r : RunState) (s : State) : (State.setRun r s).rdyP = s.rdyP := rfl
@[simp] theorem State.setRun_rdyS (r : RunState) (s : State) : (State.setRun r s).rdyS = s.rdyS := rfl
@[simp] theorem State.setRun_openCount (r : RunState) (s : State) : (State.setRun r s).openCount = s.openCount := rfl
@[simp] theorem State.setRun_ack (r : RunState) (s : State) : (State.setRun r s).ack = s.ack := rfl
@[simp] theorem State.setRun_results (r : RunState) (s : State) : (State.setRun r s).results = s.results := rfl
@[simp] theorem State.setRun_held (r : RunState) (s : State) : (State.setRun r s).held = s.held := rfl
@[simp] theorem State.setRun_linesHeld (r : RunState) (s : State) : (State.setRun r s).linesHeld = s.linesHeld := rfl
@[simp] theorem State.setRun_released (r : RunState) (s : State) : (State.setRun r s).released = s.released := rfl
@[simp] theorem State.setRun_hostResult (r : RunState) (s : State) : (State.setRun r s).hostResult = s.hostResult := rfl
@[simp] theorem State.setRun_script (r : RunState) (s : State) : (State.setRun r s).script = s.script := rfl
@[simp] theorem State.setRun_draws (r : RunState) (s : State) : (State.setRun r s).draws = s.draws := rfl

/-! ### `State.driveData` -/

@[simp] theorem State.driveData_act (v : Bool) (s : State) : (State.driveData v s).act = s.act := rfl
@[simp] theorem State.driveData_pnd (v : Bool) (s : State) : (State.driveData v s).pnd = s.pnd := rfl
@[simp] theorem State.driveData_rdy (v : Bool) (s : State) : (State.driveData v s).rdy = s.rdy := rfl
@[simp] theorem State.driveData_row (v : Bool) (s : State) : (State.driveData v s).row = s.row := rfl
@[simp] theorem State.driveData_run (v : Bool) (s : State) : (State.driveData v s).run = s.run := rfl
@[simp] theorem State.driveData_ph (v : Bool) (s : State) : (State.driveData v s).ph = s.ph := rfl
@[simp] theorem State.driveData_bitcnt (v : Bool) (s : State) : (State.driveData v s).bitcnt = s.bitcnt := rfl
@[simp] theorem State.driveData_data (v : Bool) (s : State) : (State.driveData v s).data = v := rfl
@[simp] theorem State.driveData_clk (v : Bool) (s : State) : (State.driveData v s).clk = s.clk := rfl
@[simp] theorem State.driveData_a (v : Bool) (s : State) : (State.driveData v s).a = s.a := rfl
@[simp] theorem State.driveData_latch (v : Bool) (s : State) : (State.driveData v s).latch = s.latch := rfl
@[simp] theorem State.driveData_blank (v : Bool) (s : State) : (State.driveData v s).blank = s.blank := rfl
@[simp] theorem State.driveData_tmr (v : Bool) (s : State) : (State.driveData v s).tmr = s.tmr := rfl
@[simp] theorem State.driveData_rdyP (v : Bool) (s : State) : (State.driveData v s).rdyP = s.rdyP := rfl
@[simp] theorem State.driveData_rdyS (v : Bool) (s : State) : (State.driveData v s).rdyS = s.rdyS := rfl
@[simp] theorem State.driveData_openCount (v : Bool) (s : State) : (State.driveData v s).openCount = s.openCount := rfl
@[simp] theorem State.driveData_ack (v : Bool) (s : State) : (State.driveData v s).ack = s.ack := rfl
@[simp] theorem State.driveData_results (v : Bool) (s : State) : (State.driveData v s).results = s.results := rfl
@[simp] theorem State.driveData_held (v : Bool) (s : State) : (State.driveData v s).held = s.held := rfl
@[simp] theorem State.driveData_linesHeld (v : Bool) (s : State) : (State.driveData v s).linesHeld = s.linesHeld := rfl
@[simp] theorem State.driveData_released (v : Bool) (s : State) : (State.driveData v s).released = s.released := rfl
@[simp] theorem State.driveData_hostResult (v : Bool) (s : State) : (State.driveData v s).hostResult = s.hostResult := rfl
@[simp] theorem State.driveData_script (v : Bool) (s : State) : (State.driveData v s).script = s.script := rfl
@[simp] theorem State.driveData_draws (v : Bool) (s : State) : (State.driveData v s).draws = s.draws := rfl

/-! ### `State.driveClk` -/

@[simp] theorem State.driveClk_act (v : Bool) (s : State) : (State.driveClk v s).act = s.act := rfl
@[simp] theorem State.driveClk_pnd (v : Bool) (s : State) : (State.driveClk v s).pnd = s.pnd := rfl
@[simp] theorem State.driveClk_rdy (v : Bool) (s : State) : (State.driveClk v s).rdy = s.rdy := rfl
@[simp] theorem State.driveClk_row (v : Bool) (s : State) : (State.driveClk v s).row = s.row := rfl
@[simp] theorem State.driveClk_run (v : Bool) (s : State) : (State.driveClk v s).run = s.run := rfl
@[simp] theorem State.driveClk_ph (v : Bool) (s : State) : (State.driveClk v s).ph = s.ph := rfl
@[simp] theorem State.driveClk_bitcnt (v : Bool) (s : State) : (State.driveClk v s).bitcnt = s.bitcnt := rfl
@[simp] theorem State.driveClk_data (v : Bool) (s : State) : (State.driveClk v s).data = s.data := rfl
@[simp] theorem State.driveClk_clk (v : Bool) (s : State) : (State.driveClk v s).clk = v := rfl
@[simp] theorem State.driveClk_a (v : Bool) (s : State) : (State.driveClk v s).a = s.a := rfl
@[simp] theorem State.driveClk_latch (v : Bool) (s : State) : (State.driveClk v s).latch = s.latch := rfl
@[simp] theorem State.driveClk_blank (v : Bool) (s : State) : (State.driveClk v s).blank = s.blank := rfl
@[simp] theorem State.driveClk_tmr (v : Bool) (s : State) : (State.driveClk v s).tmr = s.tmr := rfl
@[simp] theorem State.driveClk_rdyP (v : Bool) (s : State) : (State.driveClk v s).rdyP = s.rdyP := rfl
@[simp] theorem State.driveClk_rdyS (v : Bool) (s : State) : (State.driveClk v s).rdyS = s.rdyS := rfl
@[simp] theorem State.driveClk_openCount (v : Bool) (s : State) : (State.driveClk v s).openCount = s.openCount := rfl
@[simp] theorem State.driveClk_ack (v : Bool) (s : State) : (State.driveClk v s).ack = s.ack := rfl
@[simp] theorem State.driveClk_results (v : Bool) (s : State) : (State.driveClk v s).results = s.results := rfl
@[simp] theorem State.driveClk_held (v : Bool) (s : State) : (State.driveClk v s).held = s.held := rfl
@[simp] theorem State.driveClk_linesHeld (v : Bool) (s : State) : (State.driveClk v s).linesHeld = s.linesHeld := rfl
@[simp] theorem State.driveClk_released (v : Bool) (s : State) : (State.driveClk v s).released = s.released := rfl
@[simp] theorem State.driveClk_hostResult (v : Bool) (s : State) : (State.driveClk v s).hostResult = s.hostResult := rfl
@[simp] theorem State.driveClk_script (v : Bool) (s : State) : (State.driveClk v s).script = s.script := rfl
@[simp] theorem State.driveClk_draws (v : Bool) (s : State) : (State.driveClk v s).draws = s.draws := rfl

/-! ### `State.driveA` -/

@[simp] theorem State.driveA_act (v : BitVec 3) (s : State) : (State.driveA v s).act = s.act := rfl
@[simp] theorem State.driveA_pnd (v : BitVec 3) (s : State) : (State.driveA v s).pnd = s.pnd := rfl
@[simp] theorem State.driveA_rdy (v : BitVec 3) (s : State) : (State.driveA v s).rdy = s.rdy := rfl
@[simp] theorem State.driveA_row (v : BitVec 3) (s : State) : (State.driveA v s).row = s.row := rfl
@[simp] theorem State.driveA_run (v : BitVec 3) (s : State) : (State.driveA v s).run = s.run := rfl
@[simp] theorem State.driveA_ph (v : BitVec 3) (s : State) : (State.driveA v s).ph = s.ph := rfl
@[simp] theorem State.driveA_bitcnt (v : BitVec 3) (s : State) : (State.driveA v s).bitcnt = s.bitcnt := rfl
@[simp] theorem State.driveA_data (v : BitVec 3) (s : State) : (State.driveA v s).data = s.data := rfl
@[simp] theorem State.driveA_clk (v : BitVec 3) (s : State) : (State.driveA v s).clk = s.clk := rfl
@[simp] theorem State.driveA_a (v : BitVec 3) (s : State) : (State.driveA v s).a = v := rfl
@[simp] theorem State.driveA_latch (v : BitVec 3) (s : State) : (State.driveA v s).latch = s.latch := rfl
@[simp] theorem State.driveA_blank (v : BitVec 3) (s : State) : (State.driveA v s).blank = s.blank := rfl
@[simp] theorem State.driveA_tmr (v : BitVec 3) (s : State) : (State.driveA v s).tmr = s.tmr := rfl
@[simp] theorem State.driveA_rdyP (v : BitVec 3) (s : State) : (State.driveA v s).rdyP = s.rdyP := rfl
@[simp] theorem State.driveA_rdyS (v : BitVec 3) (s : State) : (State.driveA v s).rdyS = s.rdyS := rfl
@[simp] theorem State.driveA_openCount (v : BitVec 3) (s : State) : (State.driveA v s).openCount = s.openCount := rfl
@[simp] theorem State.driveA_ack (v : BitVec 3) (s : State) : (State.driveA v s).ack = s.ack := rfl
@[simp] theorem State.driveA_results (v : BitVec 3) (s : State) : (State.driveA v s).results = s.results := rfl
@[simp] theorem State.driveA_held (v : BitVec 3) (s : State) : (State.driveA v s).held = s.held := rfl
@[simp] theorem State.driveA_linesHeld (v : BitVec 3) (s : State) : (State.driveA v s).linesHeld = s.linesHeld := rfl
@[simp] theorem State.driveA_released (v : BitVec 3) (s : State) : (State.driveA v s).released = s.released := rfl
@[simp] theorem State.driveA_hostResult (v : BitVec 3) (s : State) : (State.driveA v s).hostResult = s.hostResult := rfl
@[simp] theorem State.driveA_script (v : BitVec 3) (s : State) : (State.driveA v s).script = s.script := rfl
@[simp] theorem State.driveA_draws (v : BitVec 3) (s : State) : (State.driveA v s).draws = s.draws := rfl

/-! ### `State.driveLatch` -/

@[simp] theorem State.driveLatch_act (v : Bool) (s : State) : (State.driveLatch v s).act = s.act := rfl
@[simp] theorem State.driveLatch_pnd (v : Bool) (s : State) : (State.driveLatch v s).pnd = s.pnd := rfl
@[simp] theorem State.driveLatch_rdy (v : Bool) (s : State) : (State.driveLatch v s).rdy = s.rdy := rfl
@[simp] theorem State.driveLatch_row (v : Bool) (s : State) : (State.driveLatch v s).row = s.row := rfl
@[simp] theorem State.driveLatch_run (v : Bool) (s : State) : (State.driveLatch v s).run = s.run := rfl
@[simp] theorem State.driveLatch_ph (v : Bool) (s : State) : (State.driveLatch v s).ph = s.ph := rfl
@[simp] theorem State.driveLatch_bitcnt (v : Bool) (s : State) : (State.driveLatch v s).bitcnt = s.bitcnt := rfl
@[simp] theorem State.driveLatch_data (v : Bool) (s : State) : (State.driveLatch v s).data = s.data := rfl
@[simp] theorem State.driveLatch_clk (v : Bool) (s : State) : (State.driveLatch v s).clk = s.clk := rfl
@[simp] theorem State.driveLatch_a (v : Bool) (s : State) : (State.driveLatch v s).a = s.a := rfl
@[simp] theorem State.driveLatch_latch (v : Bool) (s : State) : (State.driveLatch v s).latch = v := rfl
@[simp] theorem State.driveLatch_blank (v : Bool) (s : State) : (State.driveLatch v s).blank = s.blank := rfl
@[simp] theorem State.driveLatch_tmr (v : Bool) (s : State) : (State.driveLatch v s).tmr = s.tmr := rfl
@[simp] theorem State.driveLatch_rdyP (v : Bool) (s : State) : (State.driveLatch v s).rdyP = s.rdyP := rfl
@[simp] theorem State.driveLatch_rdyS (v : Bool) (s : State) : (State.driveLatch v s).rdyS = s.rdyS := rfl
@[simp] theorem State.driveLatch_openCount (v : Bool) (s : State) : (State.driveLatch v s).openCount = s.openCount := rfl
@[simp] theorem State.driveLatch_ack (v : Bool) (s : State) : (State.driveLatch v s).ack = s.ack := rfl
@[simp] theorem State.driveLatch_results (v : Bool) (s : State) : (State.driveLatch v s).results = s.results := rfl
@[simp] theorem State.driveLatch_held (v : Bool) (s : State) : (State.driveLatch v s).held = s.held := rfl
@[simp] theorem State.driveLatch_linesHeld (v : Bool) (s : State) : (State.driveLatch v s).linesHeld = s.linesHeld := rfl
@[simp] theorem State.driveLatch_released (v : Bool) (s : State) : (State.driveLatch v s).released = s.released := rfl
@[simp] theorem State.driveLatch_hostResult (v : Bool) (s : State) : (State.driveLatch v s).hostResult = s.hostResult := rfl
@[simp] theorem State.driveLatch_script (v : Bool) (s : State) : (State.driveLatch v s).script = s.script := rfl
@[simp] theorem State.driveLatch_draws (v : Bool) (s : State) : (State.driveLatch v s).draws = s.draws := rfl

/-! ### `State.driveBlank` -/

@[simp] theorem State.driveBlank_act (v : Bool) (s : State) : (State.driveBlank v s).act = s.act := rfl
@[simp] theorem State.driveBlank_pnd (v : Bool) (s : State) : (State.driveBlank v s).pnd = s.pnd := rfl
@[simp] theorem State.driveBlank_rdy (v : Bool) (s : State) : (State.driveBlank v s).rdy = s.rdy := rfl
@[simp] theorem State.driveBlank_row (v : Bool) (s : State) : (State.driveBlank v s).row = s.row := rfl
@[simp] theorem State.driveBlank_run (v : Bool) (s : State) : (State.driveBlank v s).run = s.run := rfl
@[simp] theorem State.driveBlank_ph (v : Bool) (s : State) : (State.driveBlank v s).ph = s.ph := rfl
@[simp] theorem State.driveBlank_bitcnt (v : Bool) (s : State) : (State.driveBlank v s).bitcnt = s.bitcnt := rfl
@[simp] theorem State.driveBlank_data (v : Bool) (s : State) : (State.driveBlank v s).data = s.data := rfl
@[simp] theorem State.driveBlank_clk (v : Bool) (s : State) : (State.driveBlank v s).clk = s.clk := rfl
@[simp] theorem State.driveBlank_a (v : Bool) (s : State) : (State.driveBlank v s).a = s.a := rfl
@[simp] theorem State.driveBlank_latch (v : Bool) (s : State) : (State.driveBlank v s).latch = s.latch := rfl
@[simp] theorem State.driveBlank_blank (v : Bool) (s : State) : (State.driveBlank v s).blank = v := rfl
@[simp] theorem State.driveBlank_tmr (v : Bool) (s : State) : (State.driveBlank v s).tmr = s.tmr := rfl
@[simp] theorem State.driveBlank_rdyP (v : Bool) (s : State) : (State.driveBlank v s).rdyP = s.rdyP := rfl
@[simp] theorem State.driveBlank_rdyS (v : Bool) (s : State) : (State.driveBlank v s).rdyS = s.rdyS := rfl
@[simp] theorem State.driveBlank_openCount (v : Bool) (s : State) : (State.driveBlank v s).openCount = s.openCount := rfl
@[simp] theorem State.driveBlank_ack (v : Bool) (s : State) : (State.driveBlank v s).ack = s.ack := rfl
@[simp] theorem State.driveBlank_results (v : Bool) (s : State) : (State.driveBlank v s).results = s.results := rfl
@[simp] theorem State.driveBlank_held (v : Bool) (s : State) : (State.driveBlank v s).held = s.held := rfl
@[simp] theorem State.driveBlank_linesHeld (v : Bool) (s : State) : (State.driveBlank v s).linesHeld = s.linesHeld := rfl
@[simp] theorem State.driveBlank_released (v : Bool) (s : State) : (State.driveBlank v s).released = s.released := rfl
@[simp] theorem State.driveBlank_hostResult (v : Bool) (s : State) : (State.driveBlank v s).hostResult = s.hostResult := rfl
@[simp] theorem State.driveBlank_script (v : Bool) (s : State) : (State.driveBlank v s).script = s.script := rfl
@[simp] theorem State.driveBlank_draws (v : Bool) (s : State) : (State.driveBlank v s).draws = s.draws := rfl

/-! ### `State.fillSlot` -/

@[simp] theorem State.fillSlot_act (f : Frame) (s : State) : (State.fillSlot f s).act = s.act := rfl
@[simp] theorem State.fillSlot_pnd (f : Frame) (s : State) : (State.fillSlot f s).pnd = f := rfl
@[simp] theorem State.fillSlot_rdy (f : Frame) (s : State) : (State.fillSlot f s).rdy = true := rfl
@[simp] theorem State.fillSlot_row (f : Frame) (s : State) : (State.fillSlot f s).row = s.row := rfl
@[simp] theorem State.fillSlot_run (f : Frame) (s : State) : (State.fillSlot f s).run = s.run := rfl
@[simp] theorem State.fillSlot_ph (f : Frame) (s : State) : (State.fillSlot f s).ph = s.ph := rfl
@[simp] theorem State.fillSlot_bitcnt (f : Frame) (s : State) : (State.fillSlot f s).bitcnt = s.bitcnt := rfl
@[simp] theorem State.fillSlot_data (f : Frame) (s : State) : (State.fillSlot f s).data = s.data := rfl
@[simp] theorem State.fillSlot_clk (f : Frame) (s : State) : (State.fillSlot f s).clk = s.clk := rfl
@[simp] theorem State.fillSlot_a (f : Frame) (s : State) : (State.fillSlot f s).a = s.a := rfl
@[simp] theorem State.fillSlot_latch (f : Frame) (s : State) : (State.fillSlot f s).latch = s.latch := rfl
@[simp] theorem State.fillSlot_blank (f : Frame) (s : State) : (State.fillSlot f s).blank = s.blank := rfl
@[simp] theorem State.fillSlot_tmr (f : Frame) (s : State) : (State.fillSlot f s).tmr = s.tmr := rfl
@[simp] theorem State.fillSlot_rdyP (f : Frame) (s : State) : (State.fillSlot f s).rdyP = true := rfl
@[simp] theorem State.fillSlot_rdyS (f : Frame) (s : State) : (State.fillSlot f s).rdyS = true := rfl
@[simp] theorem State.fillSlot_openCount (f : Frame) (s : State) : (State.fillSlot f s).openCount = s.openCount := rfl
@[simp] theorem State.fillSlot_ack (f : Frame) (s : State) : (State.fillSlot f s).ack = s.ack := rfl
@[simp] theorem State.fillSlot_results (f : Frame) (s : State) : (State.fillSlot f s).results = s.results := rfl
@[simp] theorem State.fillSlot_held (f : Frame) (s : State) : (State.fillSlot f s).held = s.held := rfl
@[simp] theorem State.fillSlot_linesHeld (f : Frame) (s : State) : (State.fillSlot f s).linesHeld = s.linesHeld := rfl
@[simp] theorem State.fillSlot_released (f : Frame) (s : State) : (State.fillSlot f s).released = s.released := rfl
@[simp] theorem State.fillSlot_hostResult (f : Frame) (s : State) : (State.fillSlot f s).hostResult = s.hostResult := rfl
@[simp] theorem State.fillSlot_script (f : Frame) (s : State) : (State.fillSlot f s).script = s.script := rfl
@[simp] theorem State.fillSlot_draws (f : Frame) (s : State) : (State.fillSlot f s).draws = s.draws := rfl

/-! ### `State.drainSlot` -/

@[simp] theorem State.drainSlot_act (s : State) : (State.drainSlot s).act = s.pnd := rfl
@[simp] theorem State.drainSlot_pnd (s : State) : (State.drainSlot s).pnd = s.pnd := rfl
@[simp] theorem State.drainSlot_rdy (s : State) : (State.drainSlot s).rdy = false := rfl
@[simp] theorem State.drainSlot_row (s : State) : (State.drainSlot s).row = s.row := rfl
@[simp] theorem State.drainSlot_run (s : State) : (State.drainSlot s).run = s.run := rfl
@[simp] theorem State.drainSlot_ph (s : State) : (State.drainSlot s).ph = s.ph := rfl
@[simp] theorem State.drainSlot_bitcnt (s : State) : (State.drainSlot s).bitcnt = s.bitcnt := rfl
@[simp] theorem State.drainSlot_data (s : State) : (State.drainSlot s).data = s.data := rfl
@[simp] theorem State.drainSlot_clk (s : State) : (State.drainSlot s).clk = s.clk := rfl
@[simp] theorem State.drainSlot_a (s : State) : (State.drainSlot s).a = s.a := rfl
@[simp] theorem State.drainSlot_latch (s : State) : (State.drainSlot s).latch = s.latch := rfl
@[simp] theorem State.drainSlot_blank (s : State) : (State.drainSlot s).blank = s.blank := rfl
@[simp] theorem State.drainSlot_tmr (s : State) : (State.drainSlot s).tmr = s.tmr := rfl
@[simp] theorem State.drainSlot_rdyP (s : State) : (State.drainSlot s).rdyP = false := rfl
@[simp] theorem State.drainSlot_rdyS (s : State) : (State.drainSlot s).rdyS = false := rfl
@[simp] theorem State.drainSlot_openCount (s : State) : (State.drainSlot s).openCount = s.openCount := rfl
@[simp] theorem State.drainSlot_ack (s : State) : (State.drainSlot s).ack = s.ack := rfl
@[simp] theorem State.drainSlot_results (s : State) : (State.drainSlot s).results = s.results := rfl
@[simp] theorem State.drainSlot_held (s : State) : (State.drainSlot s).held = s.held := rfl
@[simp] theorem State.drainSlot_linesHeld (s : State) : (State.drainSlot s).linesHeld = s.linesHeld := rfl
@[simp] theorem State.drainSlot_released (s : State) : (State.drainSlot s).released = s.released := rfl
@[simp] theorem State.drainSlot_hostResult (s : State) : (State.drainSlot s).hostResult = s.hostResult := rfl
@[simp] theorem State.drainSlot_script (s : State) : (State.drainSlot s).script = s.script := rfl
@[simp] theorem State.drainSlot_draws (s : State) : (State.drainSlot s).draws = s.draws := rfl

/-! ### `State.complete` -/

@[simp] theorem State.complete_act (r : CallResult) (s : State) : (State.complete r s).act = s.act := rfl
@[simp] theorem State.complete_pnd (r : CallResult) (s : State) : (State.complete r s).pnd = s.pnd := rfl
@[simp] theorem State.complete_rdy (r : CallResult) (s : State) : (State.complete r s).rdy = s.rdy := rfl
@[simp] theorem State.complete_row (r : CallResult) (s : State) : (State.complete r s).row = s.row := rfl
@[simp] theorem State.complete_run (r : CallResult) (s : State) : (State.complete r s).run = s.run := rfl
@[simp] theorem State.complete_ph (r : CallResult) (s : State) : (State.complete r s).ph = s.ph := rfl
@[simp] theorem State.complete_bitcnt (r : CallResult) (s : State) : (State.complete r s).bitcnt = s.bitcnt := rfl
@[simp] theorem State.complete_data (r : CallResult) (s : State) : (State.complete r s).data = s.data := rfl
@[simp] theorem State.complete_clk (r : CallResult) (s : State) : (State.complete r s).clk = s.clk := rfl
@[simp] theorem State.complete_a (r : CallResult) (s : State) : (State.complete r s).a = s.a := rfl
@[simp] theorem State.complete_latch (r : CallResult) (s : State) : (State.complete r s).latch = s.latch := rfl
@[simp] theorem State.complete_blank (r : CallResult) (s : State) : (State.complete r s).blank = s.blank := rfl
@[simp] theorem State.complete_tmr (r : CallResult) (s : State) : (State.complete r s).tmr = s.tmr := rfl
@[simp] theorem State.complete_rdyP (r : CallResult) (s : State) : (State.complete r s).rdyP = s.rdyP := rfl
@[simp] theorem State.complete_rdyS (r : CallResult) (s : State) : (State.complete r s).rdyS = s.rdyS := rfl
@[simp] theorem State.complete_openCount (r : CallResult) (s : State) : (State.complete r s).openCount = s.openCount := rfl
@[simp] theorem State.complete_ack (r : CallResult) (s : State) : (State.complete r s).ack = s.ack := rfl
@[simp] theorem State.complete_results (r : CallResult) (s : State) : (State.complete r s).results = r :: s.results := rfl
@[simp] theorem State.complete_held (r : CallResult) (s : State) : (State.complete r s).held = s.held := rfl
@[simp] theorem State.complete_linesHeld (r : CallResult) (s : State) : (State.complete r s).linesHeld = s.linesHeld := rfl
@[simp] theorem State.complete_released (r : CallResult) (s : State) : (State.complete r s).released = s.released := rfl
@[simp] theorem State.complete_hostResult (r : CallResult) (s : State) : (State.complete r s).hostResult = s.hostResult := rfl
@[simp] theorem State.complete_script (r : CallResult) (s : State) : (State.complete r s).script = s.script := rfl
@[simp] theorem State.complete_draws (r : CallResult) (s : State) : (State.complete r s).draws = s.draws := rfl

/-! ### `State.raise` -/

@[simp] theorem State.raise_act (e : Error) (s : State) : (State.raise e s).act = s.act := rfl
@[simp] theorem State.raise_pnd (e : Error) (s : State) : (State.raise e s).pnd = s.pnd := rfl
@[simp] theorem State.raise_rdy (e : Error) (s : State) : (State.raise e s).rdy = s.rdy := rfl
@[simp] theorem State.raise_row (e : Error) (s : State) : (State.raise e s).row = s.row := rfl
@[simp] theorem State.raise_run (e : Error) (s : State) : (State.raise e s).run = s.run := rfl
@[simp] theorem State.raise_ph (e : Error) (s : State) : (State.raise e s).ph = s.ph := rfl
@[simp] theorem State.raise_bitcnt (e : Error) (s : State) : (State.raise e s).bitcnt = s.bitcnt := rfl
@[simp] theorem State.raise_data (e : Error) (s : State) : (State.raise e s).data = s.data := rfl
@[simp] theorem State.raise_clk (e : Error) (s : State) : (State.raise e s).clk = s.clk := rfl
@[simp] theorem State.raise_a (e : Error) (s : State) : (State.raise e s).a = s.a := rfl
@[simp] theorem State.raise_latch (e : Error) (s : State) : (State.raise e s).latch = s.latch := rfl
@[simp] theorem State.raise_blank (e : Error) (s : State) : (State.raise e s).blank = s.blank := rfl
@[simp] theorem State.raise_tmr (e : Error) (s : State) : (State.raise e s).tmr = s.tmr := rfl
@[simp] theorem State.raise_rdyP (e : Error) (s : State) : (State.raise e s).rdyP = s.rdyP := rfl
@[simp] theorem State.raise_rdyS (e : Error) (s : State) : (State.raise e s).rdyS = s.rdyS := rfl
@[simp] theorem State.raise_openCount (e : Error) (s : State) : (State.raise e s).openCount = s.openCount := rfl
@[simp] theorem State.raise_ack (e : Error) (s : State) : (State.raise e s).ack = s.ack := rfl
@[simp] theorem State.raise_results (e : Error) (s : State) : (State.raise e s).results = .error e :: s.results := rfl
@[simp] theorem State.raise_held (e : Error) (s : State) : (State.raise e s).held = s.held := rfl
@[simp] theorem State.raise_linesHeld (e : Error) (s : State) : (State.raise e s).linesHeld = s.linesHeld := rfl
@[simp] theorem State.raise_released (e : Error) (s : State) : (State.raise e s).released = s.released := rfl
@[simp] theorem State.raise_hostResult (e : Error) (s : State) : (State.raise e s).hostResult = s.hostResult := rfl
@[simp] theorem State.raise_script (e : Error) (s : State) : (State.raise e s).script = s.script := rfl
@[simp] theorem State.raise_draws (e : Error) (s : State) : (State.raise e s).draws = s.draws := rfl

/-! ### `State.drawn` -/

@[simp] theorem State.drawn_act (s : State) : (State.drawn s).act = s.act := rfl
@[simp] theorem State.drawn_pnd (s : State) : (State.drawn s).pnd = s.pnd := rfl
@[simp] theorem State.drawn_rdy (s : State) : (State.drawn s).rdy = s.rdy := rfl
@[simp] theorem State.drawn_row (s : State) : (State.drawn s).row = s.row := rfl
@[simp] theorem State.drawn_run (s : State) : (State.drawn s).run = s.run := rfl
@[simp] theorem State.drawn_ph (s : State) : (State.drawn s).ph = s.ph := rfl
@[simp] theorem State.drawn_bitcnt (s : State) : (State.drawn s).bitcnt = s.bitcnt := rfl
@[simp] theorem State.drawn_data (s : State) : (State.drawn s).data = s.data := rfl
@[simp] theorem State.drawn_clk (s : State) : (State.drawn s).clk = s.clk := rfl
@[simp] theorem State.drawn_a (s : State) : (State.drawn s).a = s.a := rfl
@[simp] theorem State.drawn_latch (s : State) : (State.drawn s).latch = s.latch := rfl
@[simp] theorem State.drawn_blank (s : State) : (State.drawn s).blank = s.blank := rfl
@[simp] theorem State.drawn_tmr (s : State) : (State.drawn s).tmr = s.tmr := rfl
@[simp] theorem State.drawn_rdyP (s : State) : (State.drawn s).rdyP = s.rdyP := rfl
@[simp] theorem State.drawn_rdyS (s : State) : (State.drawn s).rdyS = s.rdyS := rfl
@[simp] theorem State.drawn_openCount (s : State) : (State.drawn s).openCount = s.openCount := rfl
@[simp] theorem State.drawn_ack (s : State) : (State.drawn s).ack = s.ack := rfl
@[simp] theorem State.drawn_results (s : State) : (State.drawn s).results = s.results := rfl
@[simp] theorem State.drawn_held (s : State) : (State.drawn s).held = s.held := rfl
@[simp] theorem State.drawn_linesHeld (s : State) : (State.drawn s).linesHeld = s.linesHeld := rfl
@[simp] theorem State.drawn_released (s : State) : (State.drawn s).released = s.released := rfl
@[simp] theorem State.drawn_hostResult (s : State) : (State.drawn s).hostResult = s.hostResult := rfl
@[simp] theorem State.drawn_script (s : State) : (State.drawn s).script = s.script := rfl
@[simp] theorem State.drawn_draws (s : State) : (State.drawn s).draws = s.draws + 1 := rfl

/-! ### `State.resetBlock` -/

@[simp] theorem State.resetBlock_act (c : Config) (s : State) : (State.resetBlock c s).act = c.initFrame := rfl
@[simp] theorem State.resetBlock_pnd (c : Config) (s : State) : (State.resetBlock c s).pnd = Config.freeFrame s.draws := rfl
@[simp] theorem State.resetBlock_rdy (c : Config) (s : State) : (State.resetBlock c s).rdy = false := rfl
@[simp] theorem State.resetBlock_row (c : Config) (s : State) : (State.resetBlock c s).row = c.rowReset := rfl
@[simp] theorem State.resetBlock_run (c : Config) (s : State) : (State.resetBlock c s).run = .stopped := rfl
@[simp] theorem State.resetBlock_ph (c : Config) (s : State) : (State.resetBlock c s).ph = .idle := rfl
@[simp] theorem State.resetBlock_bitcnt (c : Config) (s : State) : (State.resetBlock c s).bitcnt = 0 := rfl
@[simp] theorem State.resetBlock_data (c : Config) (s : State) : (State.resetBlock c s).data = false := rfl
@[simp] theorem State.resetBlock_clk (c : Config) (s : State) : (State.resetBlock c s).clk = false := rfl
@[simp] theorem State.resetBlock_a (c : Config) (s : State) : (State.resetBlock c s).a = 0 := rfl
@[simp] theorem State.resetBlock_latch (c : Config) (s : State) : (State.resetBlock c s).latch = false := rfl
@[simp] theorem State.resetBlock_blank (c : Config) (s : State) : (State.resetBlock c s).blank = false := rfl
@[simp] theorem State.resetBlock_tmr (c : Config) (s : State) : (State.resetBlock c s).tmr = 0 := rfl
@[simp] theorem State.resetBlock_rdyP (c : Config) (s : State) : (State.resetBlock c s).rdyP = false := rfl
@[simp] theorem State.resetBlock_rdyS (c : Config) (s : State) : (State.resetBlock c s).rdyS = false := rfl
@[simp] theorem State.resetBlock_openCount (c : Config) (s : State) : (State.resetBlock c s).openCount = s.openCount := rfl
@[simp] theorem State.resetBlock_ack (c : Config) (s : State) : (State.resetBlock c s).ack = s.ack := rfl
@[simp] theorem State.resetBlock_results (c : Config) (s : State) : (State.resetBlock c s).results = s.results := rfl
@[simp] theorem State.resetBlock_held (c : Config) (s : State) : (State.resetBlock c s).held = s.held := rfl
@[simp] theorem State.resetBlock_linesHeld (c : Config) (s : State) : (State.resetBlock c s).linesHeld = s.linesHeld := rfl
@[simp] theorem State.resetBlock_released (c : Config) (s : State) : (State.resetBlock c s).released = s.released := rfl
@[simp] theorem State.resetBlock_hostResult (c : Config) (s : State) : (State.resetBlock c s).hostResult = s.hostResult := rfl
@[simp] theorem State.resetBlock_script (c : Config) (s : State) : (State.resetBlock c s).script = s.script := rfl
@[simp] theorem State.resetBlock_draws (c : Config) (s : State) : (State.resetBlock c s).draws = s.draws + 1 := rfl

/-! ### `State.releaseLines` -/

@[simp] theorem State.releaseLines_act (s : State) : (State.releaseLines s).act = s.act := rfl
@[simp] theorem State.releaseLines_pnd (s : State) : (State.releaseLines s).pnd = s.pnd := rfl
@[simp] theorem State.releaseLines_rdy (s : State) : (State.releaseLines s).rdy = s.rdy := rfl
@[simp] theorem State.releaseLines_row (s : State) : (State.releaseLines s).row = s.row := rfl
@[simp] theorem State.releaseLines_run (s : State) : (State.releaseLines s).run = s.run := rfl
@[simp] theorem State.releaseLines_ph (s : State) : (State.releaseLines s).ph = s.ph := rfl
@[simp] theorem State.releaseLines_bitcnt (s : State) : (State.releaseLines s).bitcnt = s.bitcnt := rfl
@[simp] theorem State.releaseLines_data (s : State) : (State.releaseLines s).data = s.data := rfl
@[simp] theorem State.releaseLines_clk (s : State) : (State.releaseLines s).clk = s.clk := rfl
@[simp] theorem State.releaseLines_a (s : State) : (State.releaseLines s).a = s.a := rfl
@[simp] theorem State.releaseLines_latch (s : State) : (State.releaseLines s).latch = s.latch := rfl
@[simp] theorem State.releaseLines_blank (s : State) : (State.releaseLines s).blank = s.blank := rfl
@[simp] theorem State.releaseLines_tmr (s : State) : (State.releaseLines s).tmr = s.tmr := rfl
@[simp] theorem State.releaseLines_rdyP (s : State) : (State.releaseLines s).rdyP = s.rdyP := rfl
@[simp] theorem State.releaseLines_rdyS (s : State) : (State.releaseLines s).rdyS = s.rdyS := rfl
@[simp] theorem State.releaseLines_openCount (s : State) : (State.releaseLines s).openCount = s.openCount := rfl
@[simp] theorem State.releaseLines_ack (s : State) : (State.releaseLines s).ack = s.ack := rfl
@[simp] theorem State.releaseLines_results (s : State) : (State.releaseLines s).results = s.results := rfl
@[simp] theorem State.releaseLines_held (s : State) : (State.releaseLines s).held = s.held := rfl
@[simp] theorem State.releaseLines_linesHeld (s : State) : (State.releaseLines s).linesHeld = [] := rfl
@[simp] theorem State.releaseLines_released (s : State) : (State.releaseLines s).released = s.linesHeld := rfl
@[simp] theorem State.releaseLines_hostResult (s : State) : (State.releaseLines s).hostResult = s.hostResult := rfl
@[simp] theorem State.releaseLines_script (s : State) : (State.releaseLines s).script = s.script := rfl
@[simp] theorem State.releaseLines_draws (s : State) : (State.releaseLines s).draws = s.draws := rfl

/-! ### `State.acquireLine` -/

@[simp] theorem State.acquireLine_act (l : PinLine) (s : State) : (State.acquireLine l s).act = s.act := rfl
@[simp] theorem State.acquireLine_pnd (l : PinLine) (s : State) : (State.acquireLine l s).pnd = s.pnd := rfl
@[simp] theorem State.acquireLine_rdy (l : PinLine) (s : State) : (State.acquireLine l s).rdy = s.rdy := rfl
@[simp] theorem State.acquireLine_row (l : PinLine) (s : State) : (State.acquireLine l s).row = s.row := rfl
@[simp] theorem State.acquireLine_run (l : PinLine) (s : State) : (State.acquireLine l s).run = s.run := rfl
@[simp] theorem State.acquireLine_ph (l : PinLine) (s : State) : (State.acquireLine l s).ph = s.ph := rfl
@[simp] theorem State.acquireLine_bitcnt (l : PinLine) (s : State) : (State.acquireLine l s).bitcnt = s.bitcnt := rfl
@[simp] theorem State.acquireLine_data (l : PinLine) (s : State) : (State.acquireLine l s).data = s.data := rfl
@[simp] theorem State.acquireLine_clk (l : PinLine) (s : State) : (State.acquireLine l s).clk = s.clk := rfl
@[simp] theorem State.acquireLine_a (l : PinLine) (s : State) : (State.acquireLine l s).a = s.a := rfl
@[simp] theorem State.acquireLine_latch (l : PinLine) (s : State) : (State.acquireLine l s).latch = s.latch := rfl
@[simp] theorem State.acquireLine_blank (l : PinLine) (s : State) : (State.acquireLine l s).blank = s.blank := rfl
@[simp] theorem State.acquireLine_tmr (l : PinLine) (s : State) : (State.acquireLine l s).tmr = s.tmr := rfl
@[simp] theorem State.acquireLine_rdyP (l : PinLine) (s : State) : (State.acquireLine l s).rdyP = s.rdyP := rfl
@[simp] theorem State.acquireLine_rdyS (l : PinLine) (s : State) : (State.acquireLine l s).rdyS = s.rdyS := rfl
@[simp] theorem State.acquireLine_openCount (l : PinLine) (s : State) : (State.acquireLine l s).openCount = s.openCount := rfl
@[simp] theorem State.acquireLine_ack (l : PinLine) (s : State) : (State.acquireLine l s).ack = s.ack := rfl
@[simp] theorem State.acquireLine_results (l : PinLine) (s : State) : (State.acquireLine l s).results = s.results := rfl
@[simp] theorem State.acquireLine_held (l : PinLine) (s : State) : (State.acquireLine l s).held = s.held := rfl
@[simp] theorem State.acquireLine_linesHeld (l : PinLine) (s : State) : (State.acquireLine l s).linesHeld = l :: s.linesHeld := rfl
@[simp] theorem State.acquireLine_released (l : PinLine) (s : State) : (State.acquireLine l s).released = s.released := rfl
@[simp] theorem State.acquireLine_hostResult (l : PinLine) (s : State) : (State.acquireLine l s).hostResult = s.hostResult := rfl
@[simp] theorem State.acquireLine_script (l : PinLine) (s : State) : (State.acquireLine l s).script = s.script := rfl
@[simp] theorem State.acquireLine_draws (l : PinLine) (s : State) : (State.acquireLine l s).draws = s.draws := rfl

end Sys2Proof.Machine
end

