-- ==== Sys2Proof/Laws/Memory.lean ====
section
/-! SUPPORT. The frame stores: every byte by row and column, the linear order of the bytes, and the memory primitives of
00_scope.md rule R262. A frame store is a total array of 144 bytes, so its type is its canonical form: equal stores are
equal data (`frame_ext`), and there is no unlisted address. -/

namespace Sys2Proof.Machine

/-- A Frame built byte by byte reads as it was built. -/
@[simp] theorem byteOf_ofFn (g : Fin 8 → Fin 18 → Byte) (r : Fin 8) (b : Fin 18) :
    byteOf (Vector.ofFn fun i => Vector.ofFn (g i)) r b = g r b := by
  simp [byteOf]

/-- Frames that read alike at every byte are equal. -/
theorem frame_ext {f g : Frame} (h : ∀ r b, byteOf f r b = byteOf g r b) : f = g := by
  apply Vector.ext
  intro i hi
  apply Vector.ext
  intro j hj
  exact h ⟨i, hi⟩ ⟨j, hj⟩

/-- Concatenating blocks of one length puts element `j` of block `i` at `i * n + j`. -/
theorem getElem?_flatMap_blocks {α β : Type} (l : List α) (g : α → List β) (n : Nat)
    (hg : ∀ x ∈ l, (g x).length = n) (i j : Nat) (hj : j < n) :
    (l.flatMap g)[i * n + j]? = l[i]?.bind fun x => (g x)[j]? := by
  induction l generalizing i with
  | nil => simp
  | cons x xs ih =>
    have hx : (g x).length = n := hg x (by simp)
    cases i with
    | zero => simp [List.getElem?_append_left (hx ▸ hj : j < (g x).length)]
    | succ i =>
      have := ih (fun y hy => hg y (by simp [hy])) i
      rw [List.flatMap_cons, List.getElem?_append_right (by rw [hx, Nat.succ_mul]; omega), hx,
        show (i + 1) * n + j - n = i * n + j by rw [Nat.succ_mul]; omega, this]
      simp

theorem length_flatMap_blocks {α β : Type} (l : List α) (g : α → List β) (n : Nat)
    (hg : ∀ x ∈ l, (g x).length = n) : (l.flatMap g).length = l.length * n := by
  induction l with
  | nil => simp
  | cons x xs ih =>
    rw [List.flatMap_cons, List.length_append, hg x (by simp), ih fun y hy => hg y (by simp [hy]), List.length_cons,
      Nat.succ_mul, Nat.add_comm]

@[simp] theorem frameBytesOf_length (f : Frame) : (frameBytesOf f).length = 144 := by
  rw [frameBytesOf, length_flatMap_blocks _ _ 18 (by simp)]
  simp

/-- Row-major order (20_memory.md rule R41): byte `off = 18*r + b` is `F[r][b]`. -/
theorem frameBytesOf_getElem? (f : Frame) (r : Fin 8) (b : Fin 18) :
    (frameBytesOf f)[18 * r.val + b.val]? = some (byteOf f r b) := by
  rw [frameBytesOf, show 18 * r.val + b.val = r.val * 18 + b.val by omega,
    getElem?_flatMap_blocks _ _ 18 (by simp) _ _ b.isLt]
  simp [byteOf]

/-- The whole Frame written at offset 0 replaces the store (R45, R262). -/
theorem memWrite_whole (store f : Frame) : memWrite store 0 (frameBytesOf f) = f := by
  apply frame_ext
  intro r b
  have h : 18 * r.val + b.val < 144 := by omega
  rw [memWrite, byteOf_ofFn, if_pos (by simp [h]), Nat.sub_zero, List.getD_eq_getElem?_getD, frameBytesOf_getElem?]
  rfl

/-- A write leaves every byte outside its range alone. -/
theorem memWrite_elsewhere (store : Frame) (off : Nat) (v : List Byte) (r : Fin 8) (b : Fin 18)
    (h : 18 * r.val + b.val < off ∨ off + v.length ≤ 18 * r.val + b.val) :
    byteOf (memWrite store off v) r b = byteOf store r b := by
  rw [memWrite, byteOf_ofFn, if_neg (by omega)]

/-- Reading the whole store gives its 144 bytes. -/
theorem memRead_whole (f : Frame) : memRead f 0 144 = frameBytesOf f := by
  rw [memRead, List.drop_zero, List.take_of_length_le (by simp)]

/-- A single-byte read at `off = 18*r + b` gives `F[r][b]`. -/
theorem memRead_byte (f : Frame) (r : Fin 8) (b : Fin 18) : memRead f (18 * r.val + b.val) 1 = [byteOf f r b] := by
  have h : 18 * r.val + b.val < (frameBytesOf f).length := by rw [frameBytesOf_length]; omega
  have e := frameBytesOf_getElem? f r b
  rw [List.getElem?_eq_getElem h, Option.some.injEq] at e
  rw [memRead, List.drop_eq_getElem_cons h, List.take_succ_cons, List.take_zero, e]

/-- The row the Row Index names, byte by byte. -/
theorem rowOf_getElem (f : Frame) (row : BitVec 3) (r : Fin 8) (b : Fin 18) (h : row.toNat = r.val) :
    (rowOf f row)[b.val] = byteOf f r b := by
  simp [rowOf, byteOf, h]

/-- Format W (30_encoding.md rule R74): bit count `8*b + i` names bit `7 - i` of byte `b`. -/
theorem rowCell_eq (f : Frame) (row : BitVec 3) (n : BitVec 8) (r : Fin 8) (b : Fin 18) (i : Fin 8)
    (hr : row.toNat = r.val) (hn : n.toNat = 8 * b.val + i.val) :
    rowCell (rowOf f row) n = (byteOf f r b).getLsbD (7 - i.val) := by
  have hb : byteIndex n = b.val := by simp only [byteIndex]; omega
  have hi : bitIndex n = 7 - i.val := by simp only [bitIndex]; omega
  unfold rowCell
  rw [dif_pos (by rw [hb]; exact b.isLt), hi]
  simp only [hb, bitOf]
  rw [rowOf_getElem f row r b hr]

end Sys2Proof.Machine
end

