-- ==== Sys2Proof/Laws/Exec.lean ====
section
/-! SUPPORT. What each meaning answers, in terms of the named operations; the operations that decide (`present`,
`resumeHeld`, `withdrawHeld`, `requeue`); and the step in terms of `exec`. -/

namespace Sys2Proof.Machine

/-! ### Sequencing -/

@[simp] theorem andThen_next (s : State) (f : State → Outcome) : andThen (.next s) f = f s := rfl

theorem andThen_eq_next {o : Outcome} {f : State → Outcome} {t : State} :
    andThen o f = .next t ↔ ∃ s, o = .next s ∧ f s = .next t := by
  cases o <;> simp [andThen]

theorem andThen_assoc (o : Outcome) (f g : State → Outcome) :
    andThen (andThen o f) g = andThen o fun s => andThen (f s) g := by
  cases o <;> rfl

/-! ### Operations that decide -/

theorem present_empty (f : Frame) (c : Caller) {s : State} (h : s.rdy = false) :
    State.present f c s = State.answer c (State.fillSlot f s) := by
  simp [State.present, State.slotFull, h]

theorem present_full (f : Frame) (c : Caller) {s : State} (h : s.rdy = true) :
    State.present f c s = { s with held := s.held ++ [{ frame := f, caller := c }] } := by
  simp [State.present, State.slotFull, h]

/-- Everything an answer to a caller can change is the results returned. -/
theorem answer_eq (c : Caller) (s : State) : State.answer c s = { s with results := (State.answer c s).results } := by
  cases c <;> rfl

/-- What resuming a held call can do. -/
theorem resumeHeld_cases (k : Nat) (s : State) :
    (State.resumeHeld k s = s ∧ (s.rdy = true ∨ s.held[k]? = none)) ∨
      ∃ h, s.held[k]? = some h ∧ s.rdy = false ∧
        State.resumeHeld k s = State.answer h.caller (State.fillSlot h.frame { s with held := s.held.eraseIdx k }) := by
  unfold State.resumeHeld
  cases hk : s.held[k]? with
  | none => exact .inl ⟨rfl, .inr rfl⟩
  | some h =>
    by_cases hr : s.rdy = true
    · exact .inl ⟨by simp [State.slotFull, hr], .inl hr⟩
    · exact .inr ⟨h, rfl, by simpa using hr, by simp [State.slotFull, hr]⟩

/-- Withdrawing a held call changes nothing but the list of those who wait. -/
theorem withdrawHeld_eq (k : Nat) (s : State) :
    State.withdrawHeld k s = { s with held := (State.withdrawHeld k s).held } := by
  unfold State.withdrawHeld
  split
  · rfl
  · split <;> rfl

/-- A held call whose slot is empty takes its DEPOSIT and its caller is answered. -/
theorem resumeHeld_empty {k : Nat} {s : State} {h : HeldCall} (hk : s.held[k]? = some h) (hr : s.rdy = false) :
    State.resumeHeld k s = State.answer h.caller (State.fillSlot h.frame { s with held := s.held.eraseIdx k }) := by
  simp [State.resumeHeld, hk, State.slotFull, hr]

theorem resumeHeld_full (k : Nat) {s : State} (hr : s.rdy = true) : State.resumeHeld k s = s := by
  rcases resumeHeld_cases k s with ⟨e, _⟩ | ⟨_, _, hr', _⟩
  · exact e
  · rw [hr] at hr'; cases hr'

/-- A held bare DEPOSIT may be withdrawn, a held WRITE may not. -/
theorem withdrawHeld_port {k : Nat} {s : State} {h : HeldCall} (hk : s.held[k]? = some h) (hc : h.caller = .port) :
    State.withdrawHeld k s = { s with held := s.held.eraseIdx k } := by
  simp [State.withdrawHeld, hk, hc]

theorem withdrawHeld_write {k : Nat} {s : State} {h : HeldCall} (hk : s.held[k]? = some h) (hc : h.caller = .write) :
    State.withdrawHeld k s = s := by
  simp [State.withdrawHeld, hk, hc]

/-- Putting back the rest of a request changes nothing but the script. -/
theorem requeue_eq (w : OpWord) (s : State) : requeue w s = { s with script := (requeue w s).script } := by
  cases w with
  | x xreq f => simp only [requeue]; split <;> rfl
  | s c => rfl
  | d d c => rfl
  | p c => rfl

/-- The hardware rejects non-hex characters (00_scope.md rule R5). -/
@[simp] theorem hardware_nonhex : Config.hardware.nonhex = .reject := rfl

@[simp] theorem noteDraw_reject (s : State) : noteDraw .reject s = s := rfl

/-! ### What each instruction answers -/

theorem exec_start (s : State) :
    exec .start s = .next (if s.run = .stopped then State.goto .check (State.setRun .running s) else s) := rfl
theorem exec_stop (s : State) : exec .stop s = .next (if s.run = .running then State.setRun .stopping s else s) := rfl
theorem exec_deposit (f : Frame) (s : State) : exec (.deposit f) s = .next (State.present f .port s) := rfl
theorem exec_idle (s : State) : exec .idle s = .next s := rfl
theorem exec_check (s : State) :
    exec .check s =
      .next (if s.run = .stopping then State.goto .idle (State.setRun .halted s) else State.goto .take s) := rfl
theorem exec_take (s : State) :
    exec .take s = .next (State.goto .advance (if s.slotFull then State.drainSlot s else s)) := rfl
theorem exec_advance (s : State) :
    exec .advance s = .next (State.goto .shiftData (State.setBitcnt 0 (State.setRow (nextRow s.row) s))) := rfl
theorem exec_shiftData (s : State) :
    exec .shiftData s = .next (State.goto .shiftClkh (State.driveData (rowCell (rowOf s.act s.row) s.bitcnt) s)) := rfl
theorem exec_shiftClkh (s : State) : exec .shiftClkh s = .next (State.goto .shiftClkl (State.driveClk true s)) := rfl
theorem exec_shiftClkl (s : State) :
    exec .shiftClkl s = .next (if s.bitcnt = lastBit then State.goto .blankOn (State.setBitcnt 0 (State.driveClk false s))
      else State.goto .shiftData (State.setBitcnt (s.bitcnt + 1) (State.driveClk false s))) := rfl
theorem exec_blankOn (s : State) : exec .blankOn s = .next (State.goto .select (State.driveBlank true s)) := rfl
theorem exec_select (s : State) :
    exec .select s = .next (State.goto .latchOn (State.driveA (selectCode s.row) s)) := rfl
theorem exec_latchOn (s : State) : exec .latchOn s = .next (State.goto .latchOff (State.driveLatch true s)) := rfl
theorem exec_latchOff (s : State) : exec .latchOff s = .next (State.goto .blankOff (State.driveLatch false s)) := rfl
theorem exec_blankOff (s : State) : exec .blankOff s = .next (State.goto .dwell (State.driveBlank false s)) := rfl
theorem exec_dwell (s : State) : exec .dwell s = .next (State.goto .check s) := rfl
theorem exec_devOpen (s : State) :
    exec .devOpen s = .next (State.complete .success { s with openCount := s.openCount + 1 }) := rfl
theorem exec_devRead (s : State) :
    exec .devRead s = .next (State.complete (.bytes (Config.freeBytes s.draws))
      (State.drawn { s with ack := Config.freeBytes s.draws })) := rfl
theorem exec_devClose (s : State) : exec .devClose s = .next (State.complete .success s) := rfl

theorem exec_devWrite_error {c : List Byte} {s : State} {e : Error} (h : decodeNow c s = .error e) :
    exec (.devWrite c) s = .next (State.raise e s) := by
  simp [exec, execWrite, h]
theorem exec_devWrite_ok {c : List Byte} {s : State} {f : Frame} (h : decodeNow c s = .ok f) :
    exec (.devWrite c) s = .next (State.present f .write s) := by
  simp [exec, execWrite, h]
theorem exec_frameDecode_error {c : List Byte} {s : State} {e : Error} (h : decodeNow c s = .error e) :
    exec (.frameDecode c) s = .next (State.raise e s) := by
  simp [exec, execDecode, h]
theorem exec_frameDecode_ok {c : List Byte} {s : State} {f : Frame} (h : decodeNow c s = .ok f) :
    exec (.frameDecode c) s = .next (State.complete (.frame f) s) := by
  simp [exec, execDecode, h]

/-- Every instruction answers a next state. -/
theorem exec_answers (i : Instr) (s : State) : ∃ t, exec i s = .next t := by
  cases i
  case devWrite c =>
    cases h : decodeNow c s with
    | error e => exact ⟨_, exec_devWrite_error h⟩
    | ok f => exact ⟨_, exec_devWrite_ok h⟩
  case frameDecode c =>
    cases h : decodeNow c s with
    | error e => exact ⟨_, exec_frameDecode_error h⟩
    | ok f => exact ⟨_, exec_frameDecode_ok h⟩
  all_goals exact ⟨_, rfl⟩

/-! ### The step -/

@[simp] theorem positionOf_positionCode (p : Phase) : positionOf (positionCode p) = some p := by cases p <;> rfl

/-- The scanner executes the micro-operation its position names. -/
theorem scan_eq (s : State) : scan s = exec (microOp s.ph) s := by
  simp [scan, scanWord, runWord, decode, requeue]

theorem runWord_ok {w : OpWord} {i : Instr} (h : decode w = .ok i) (s : State) :
    runWord w s = exec i (requeue w s) := by
  simp [runWord, h]

theorem runWord_error {w : OpWord} {e : DecodeError} (h : decode w = .error e) (s : State) :
    runWord w s = .next s := by
  simp [runWord, h]

/-- Running a word executes one instruction on the state less what the requeueing changes, or changes nothing. -/
theorem runWord_cases (w : OpWord) (s : State) :
    (∃ i, decode w = .ok i ∧ runWord w s = exec i (requeue w s)) ∨ runWord w s = .next s := by
  cases h : decode w with
  | ok i => exact .inl ⟨i, rfl, runWord_ok h s⟩
  | error e => exact .inr (runWord_error h s)

theorem step_script_nil {s : State} (h : s.script = []) : step s = autonomous s := by
  simp [step, nextStep, h]

theorem step_script_cons {s : State} {e : Event} {es : List Event} (h : s.script = e :: es) :
    step s = perform e { s with script := es } := by
  simp [step, nextStep, popped, h]

theorem autonomous_idle {s : State} (h : s.held = []) : autonomous s = scan s := by
  simp [autonomous, h]

theorem autonomous_full {s : State} (h : s.rdy = true) : autonomous s = scan s := by
  unfold autonomous
  split
  · rfl
  · simp [State.slotFull, h]

theorem autonomous_resume {s : State} {c : HeldCall} {cs : List HeldCall} (h : s.held = c :: cs) (hr : s.rdy = false) :
    autonomous s = .next (State.resumeHeld 0 s) := by
  simp [autonomous, h, State.slotFull, hr]

theorem scanRun_succ (n : Nat) (s : State) : scanRun (n + 1) s = andThen (scan s) (scanRun n) := rfl

theorem scanRun_add (m n : Nat) (s : State) : scanRun (m + n) s = andThen (scanRun m s) (scanRun n) := by
  induction m generalizing s with
  | zero => simp [scanRun]
  | succ m ih =>
    rw [Nat.succ_add, scanRun_succ, scanRun_succ, andThen_assoc]
    congr 1
    funext t
    exact ih t

/-! ### A tick -/

/-- The scanner's part of a tick, when a micro-operation is due. -/
theorem scanTick_due (c : Config) {s : State} (hp : s.ph ≠ .idle) (hd : State.due s = true) :
    scanTick c s = andThen (microTick s) fun t => .next { t with tmr := hold c s.ph - 1 } := by
  simp [scanTick, hp, hd]

theorem scanTick_waiting (c : Config) {s : State} (hp : s.ph ≠ .idle) (hd : State.due s = false) :
    scanTick c s = .next { s with tmr := s.tmr - 1 } := by
  simp [scanTick, hp, hd]

theorem scanTick_idle (c : Config) {s : State} (hp : s.ph = .idle) : scanTick c s = .next { s with tmr := 0 } := by
  simp [scanTick, hp]

/-- With no lag of the scanner's view the tick level executes the micro-operation itself. -/
theorem microTick_eq {s : State} (h : s.rdyS = s.rdy) : microTick s = exec (microOp s.ph) s := by
  unfold microTick
  split
  · rename_i hc
    rw [hc.1]
    have : s.rdy = false := by rw [← h]; exact hc.2
    simp [microOp, exec_take, State.slotFull, this]
  · rfl

/-- The views follow the flag where no synchroniser lags. -/
theorem settleViews_oneClock (old s : State) :
    State.settleViews SyncPass.oneClock old s = { s with rdyS := s.rdy, rdyP := s.rdy } := rfl

theorem whenPresented_false (i : Instr) (s : State) : whenPresented false i s = .next s := rfl
theorem whenPresented_true (i : Instr) (s : State) : whenPresented true i s = exec i s := rfl

end Sys2Proof.Machine
end

