-- ==== Sys2Proof/Laws/PerInstr.lean ====
section
/-! SUPPORT. Statements about every instruction as syntax, one lemma per constructor. -/

namespace Sys2Proof.Laws.WellFormedWord

/-- The instruction is well formed and so is the word it encodes to. -/
def Statement (i : Instr) : Prop := i.wf = true ∧ (encode i).wf = true

theorem start : Statement .start := ⟨rfl, rfl⟩
theorem stop : Statement .stop := ⟨rfl, rfl⟩
theorem deposit (f : Frame) : Statement (.deposit f) := ⟨rfl, rfl⟩
theorem idle : Statement .idle := ⟨rfl, rfl⟩
theorem check : Statement .check := ⟨rfl, rfl⟩
theorem take : Statement .take := ⟨rfl, rfl⟩
theorem advance : Statement .advance := ⟨rfl, rfl⟩
theorem shiftData : Statement .shiftData := ⟨rfl, rfl⟩
theorem shiftClkh : Statement .shiftClkh := ⟨rfl, rfl⟩
theorem shiftClkl : Statement .shiftClkl := ⟨rfl, rfl⟩
theorem blankOn : Statement .blankOn := ⟨rfl, rfl⟩
theorem select : Statement .select := ⟨rfl, rfl⟩
theorem latchOn : Statement .latchOn := ⟨rfl, rfl⟩
theorem latchOff : Statement .latchOff := ⟨rfl, rfl⟩
theorem blankOff : Statement .blankOff := ⟨rfl, rfl⟩
theorem dwell : Statement .dwell := ⟨rfl, rfl⟩
theorem devOpen : Statement .devOpen := ⟨rfl, rfl⟩
theorem devRead : Statement .devRead := ⟨rfl, rfl⟩
theorem devWrite (c : List Byte) : Statement (.devWrite c) := ⟨rfl, rfl⟩
theorem devClose : Statement .devClose := ⟨rfl, rfl⟩
theorem frameDecode (c : List Byte) : Statement (.frameDecode c) := ⟨rfl, rfl⟩

end Sys2Proof.Laws.WellFormedWord
end

