-- ==== Sys2Proof/Laws/Step.lean ====
section
/-! SUPPORT. What one step can do, said once: every property of a step follows from what the scanner's micro-operation at
its own position does, what an operation of the host or the producer does, and what resuming, withdrawing, reset, a tick,
a bring-up and a release do. -/

namespace Sys2Proof.Machine

/-- An operation of the host or of the producer: no micro-operation (00_scope.md rule R6). -/
def External (i : Instr) : Prop := ∀ p : Phase, i ≠ microOp p

theorem external_start : External .start := by intro p; cases p <;> simp [microOp]
theorem external_stop : External .stop := by intro p; cases p <;> simp [microOp]
theorem external_deposit (f : Frame) : External (.deposit f) := by intro p; cases p <;> simp [microOp]
theorem external_devOpen : External .devOpen := by intro p; cases p <;> simp [microOp]
theorem external_devRead : External .devRead := by intro p; cases p <;> simp [microOp]
theorem external_devWrite (c : List Byte) : External (.devWrite c) := by intro p; cases p <;> simp [microOp]
theorem external_devClose : External .devClose := by intro p; cases p <;> simp [microOp]
theorem external_frameDecode (c : List Byte) : External (.frameDecode c) := by intro p; cases p <;> simp [microOp]

/-- An external operation is one of eight. -/
theorem external_cases {i : Instr} (h : External i) :
    i = .start ∨ i = .stop ∨ (∃ f, i = .deposit f) ∨ i = .devOpen ∨ i = .devRead ∨ (∃ c, i = .devWrite c) ∨
      i = .devClose ∨ ∃ c, i = .frameDecode c := by
  cases i
  case idle => exact absurd rfl (h .idle)
  case check => exact absurd rfl (h .check)
  case take => exact absurd rfl (h .take)
  case advance => exact absurd rfl (h .advance)
  case shiftData => exact absurd rfl (h .shiftData)
  case shiftClkh => exact absurd rfl (h .shiftClkh)
  case shiftClkl => exact absurd rfl (h .shiftClkl)
  case blankOn => exact absurd rfl (h .blankOn)
  case select => exact absurd rfl (h .select)
  case latchOn => exact absurd rfl (h .latchOn)
  case latchOff => exact absurd rfl (h .latchOff)
  case blankOff => exact absurd rfl (h .blankOff)
  case dwell => exact absurd rfl (h .dwell)
  all_goals simp

/-- A request word names an external operation. -/
theorem decode_x_external {xreq : BitVec 3} {f : BitVec 1152} {i : Instr} (h : decode (.x xreq f) = .ok i) :
    External i := by
  simp only [decode, decodeRequest] at h
  split at h
  · cases h; exact external_start
  · split at h
    · cases h; exact external_stop
    · split at h
      · cases h; exact external_deposit _
      · cases h

/-- A device call names an external operation. -/
theorem decode_d_external {d : BitVec 2} {c : List Byte} {i : Instr} (h : decode (.d d c) = .ok i) : External i := by
  simp only [decode, decodeCall, Except.ok.injEq] at h
  subst h
  split
  · exact external_devOpen
  · exact external_devRead
  · exact external_devWrite _
  · exact external_devClose

theorem decode_p_external {c : List Byte} {i : Instr} (h : decode (.p c) = .ok i) : External i := by
  simp only [decode, Except.ok.injEq] at h
  subst h
  exact external_frameDecode _

/-- A step keeps a property if each of its parts keeps it: taking a line off the script or putting one back, the scanner's
micro-operation at its own position, an external operation, resuming and withdrawing a held call, reset, a tick, a
bring-up, a release. -/
theorem step_keeps (P : State → Prop) {s t : State} (hs : P s) (h : step s = .next t)
    (script : ∀ s es, P s → P { s with script := es })
    (micro : ∀ s t, P s → exec (microOp s.ph) s = .next t → P t)
    (external : ∀ i s t, External i → P s → exec i s = .next t → P t)
    (resume : ∀ k s, P s → P (State.resumeHeld k s))
    (withdraw : ∀ k s, P s → P (State.withdrawHeld k s))
    (reset : ∀ s, P s → P (State.resetBlock Config.hardware s))
    (ticked : ∀ p y s t, P s → tick Config.hardware p y s = .next t → P t)
    (broughtUp : ∀ b s t, P s → bringUp Config.hardware b s = .next t → P t)
    (release : ∀ s, P s → P (releaseAtHalt s)) : P t := by
  have scanned : ∀ {s t : State}, P s → scan s = .next t → P t := fun hs h => micro _ _ hs (by rwa [scan_eq] at h)
  have requeued : ∀ (w : OpWord) (s : State), P s → P (requeue w s) := fun w s hs => by
    rw [requeue_eq]; exact script _ _ hs
  have word : ∀ {w : OpWord} {s t : State}, (∀ i, decode w = .ok i → External i) → P s → runWord w s = .next t → P t := by
    intro w s t hx hs h
    rcases runWord_cases w s with ⟨i, hd, e⟩ | e
    · exact external i _ _ (hx i hd) (requeued w s hs) (e ▸ h)
    · rw [e] at h; cases h; exact hs
  rcases hsc : s.script with _ | ⟨e, es⟩
  · rw [step_script_nil hsc, autonomous] at h
    split at h
    · exact scanned hs h
    · split at h
      · exact scanned hs h
      · cases h; exact resume _ _ hs
  · rw [step_script_cons hsc] at h
    have hp := script s es hs
    cases e with
    | scan => exact scanned hp h
    | request x f => exact word (fun _ => decode_x_external) hp h
    | call d c => exact word (fun _ => decode_d_external) hp h
    | text c => exact word (fun _ => decode_p_external) hp h
    | resume k => cases h; exact resume _ _ hp
    | withdraw k => cases h; exact withdraw _ _ hp
    | reset => cases h; exact reset _ hp
    | tick p y => exact ticked _ _ _ _ hp h
    | bringUp b => exact broughtUp _ _ _ hp h
    | release => cases h; exact release _ hp

/-- A tick without reset, part by part (60_exceptions.md rule R200). -/
theorem tick_parts {c : Config} {p : Ports} {y : SyncPass} {s t : State} (hr : p.rst = false)
    (h : tick c p y s = .next t) : ∃ s1 s2 s3 s4 : State,
      scanTick c s = .next s1 ∧ whenPresented (p.xreq.getLsbD 0) .start s1 = .next s2 ∧
      whenPresented (p.xreq.getLsbD 1) .stop s2 = .next s3 ∧
      whenPresented (p.xreq.getLsbD 2 && s.depReady) (.deposit (unpackFrame p.depFrame)) s3 = .next s4 ∧
      t = State.settleViews y s s4 := by
  unfold tick at h
  simp only [hr, Bool.false_eq_true, if_false] at h
  obtain ⟨s1, h1, h⟩ := andThen_eq_next.1 h
  obtain ⟨s2, h2, h⟩ := andThen_eq_next.1 h
  obtain ⟨s3, h3, h⟩ := andThen_eq_next.1 h
  obtain ⟨s4, h4, h⟩ := andThen_eq_next.1 h
  cases h
  exact ⟨s1, s2, s3, s4, h1, h2, h3, h4, rfl⟩

/-- What the scanner's part of a tick can do: IDLE, one micro-operation with its hold, TAKE that sees nothing yet, or a
count down. -/
theorem scanTick_cases {c : Config} {s t : State} (h : scanTick c s = .next t) :
    (s.ph = .idle ∧ t = { s with tmr := 0 }) ∨
    (s.ph ≠ .idle ∧ State.due s = true ∧ (∃ u, exec (microOp s.ph) s = .next u ∧ t = { u with tmr := hold c s.ph - 1 }) ∧
      ¬ (s.ph = .take ∧ s.rdyS = false)) ∨
    (s.ph = .take ∧ State.due s = true ∧ s.rdyS = false ∧ t = { s with ph := .advance, tmr := hold c .take - 1 }) ∨
    (s.ph ≠ .idle ∧ State.due s = false ∧ t = { s with tmr := s.tmr - 1 }) := by
  by_cases hp : s.ph = .idle
  · rw [scanTick_idle c hp] at h; cases h; exact .inl ⟨hp, rfl⟩
  · cases hd : State.due s with
    | false => rw [scanTick_waiting c hp hd] at h; cases h; exact .inr (.inr (.inr ⟨hp, rfl, rfl⟩))
    | true =>
      rw [scanTick_due c hp hd] at h
      obtain ⟨u, hu, e⟩ := andThen_eq_next.1 h
      cases e
      unfold microTick at hu
      split at hu
      · rename_i hc
        cases hu
        rw [hc.1]
        exact .inr (.inr (.inl ⟨rfl, rfl, hc.2, rfl⟩))
      · rename_i hc
        exact .inr (.inl ⟨hp, rfl, ⟨u, hu, rfl⟩, hc⟩)

/-- No instruction reads the hold timer: with another timer it answers the same state with that timer. -/
theorem exec_timer {i : Instr} {s t : State} (n : Nat) (h : exec i s = .next t) :
    exec i { s with tmr := n } = .next { t with tmr := n } := by
  have pres (f c) : State.present f c { s with tmr := n } = { State.present f c s with tmr := n } := by
    rcases Bool.eq_false_or_eq_true s.rdy with hr | hr
    · rw [present_full _ _ hr, present_full _ _ (by exact hr)]
    · rw [present_empty _ _ hr, present_empty _ _ (by exact hr)]; cases c <;> rfl
  cases i
  case deposit f => cases h; rw [exec_deposit, pres]
  case devWrite c =>
    cases hd : decodeNow c s with
    | error e => rw [exec_devWrite_error hd] at h; cases h; exact exec_devWrite_error (s := { s with tmr := n }) hd
    | ok f => rw [exec_devWrite_ok hd] at h; cases h; rw [exec_devWrite_ok (s := { s with tmr := n }) hd, pres]
  case frameDecode c =>
    cases hd : decodeNow c s with
    | error e => rw [exec_frameDecode_error hd] at h; cases h; exact exec_frameDecode_error (s := { s with tmr := n }) hd
    | ok f => rw [exec_frameDecode_ok hd] at h; cases h; exact exec_frameDecode_ok (s := { s with tmr := n }) hd
  case start | stop | check | shiftClkl | take =>
    simp only [exec_start, exec_stop, exec_check, exec_shiftClkl, exec_take] at h ⊢
    cases h
    split <;> rfl
  all_goals cases h; rfl

/-- An instruction moves the views with the flag. -/
theorem exec_oneClock {i : Instr} {s t : State} (h : exec i s = .next t) (ho : OneClock s) : OneClock t := by
  have pres (f c) : OneClock (State.present f c s) := by
    cases hr : s.rdy
    · rw [present_empty _ _ hr, answer_eq]; exact ⟨rfl, rfl⟩
    · rw [present_full _ _ hr]; exact ho
  cases i
  case deposit f => cases h; exact pres _ _
  case devWrite c =>
    cases hd : decodeNow c s with
    | error e => rw [exec_devWrite_error hd] at h; cases h; exact ho
    | ok f => rw [exec_devWrite_ok hd] at h; cases h; exact pres _ _
  case frameDecode c =>
    cases hd : decodeNow c s with
    | error e => rw [exec_frameDecode_error hd] at h; cases h; exact ho
    | ok f => rw [exec_frameDecode_ok hd] at h; cases h; exact ho
  case take => rw [exec_take] at h; cases h; split; exacts [⟨rfl, rfl⟩, ho]
  case start | stop | check | shiftClkl =>
    simp only [exec_start, exec_stop, exec_check, exec_shiftClkl] at h
    cases h
    split <;> exact ho
  all_goals cases h; exact ho

/-- With one clock the scanner's part of a tick is the untimed micro-operation where one is due, and nothing where none is,
but for the timer. -/
theorem scanTick_oneClock (c : Config) {s : State} (ho : OneClock s) : ∃ (u : State) (n : Nat),
    (if State.due s = true then scan s else .next s) = .next u ∧ scanTick c s = .next { u with tmr := n } ∧ OneClock u := by
  by_cases hp : s.ph = .idle
  · exact ⟨s, 0, by rw [scan_eq, hp]; simp [microOp, exec_idle], scanTick_idle c hp, ho⟩
  · cases hd : State.due s with
    | false => exact ⟨s, s.tmr - 1, by simp, scanTick_waiting c hp hd, ho⟩
    | true =>
      obtain ⟨u, hu⟩ := exec_answers (microOp s.ph) s
      exact ⟨u, hold c s.ph - 1, by rw [if_pos rfl, scan_eq, hu],
        by rw [scanTick_due c hp hd, microTick_eq ho.2, hu]; rfl, exec_oneClock hu ho⟩

/-- A request of a tick acts or nothing happens. -/
theorem whenPresented_cases {b : Bool} {i : Instr} {s t : State} (h : whenPresented b i s = .next t) :
    (b = true ∧ exec i s = .next t) ∨ (b = false ∧ t = s) := by
  cases b with
  | false => rw [whenPresented_false] at h; cases h; exact .inr ⟨rfl, rfl⟩
  | true => exact .inl ⟨rfl, h⟩

/-- A tick keeps a property that its parts keep. -/
theorem tick_keeps (P : State → Prop) {c : Config} {p : Ports} {y : SyncPass} {s t : State} (hs : P s)
    (h : tick c p y s = .next t)
    (reset : ∀ s, P s → P (State.resetBlock c s))
    (timer : ∀ s n, P s → P { s with tmr := n })
    (micro : ∀ s t, P s → exec (microOp s.ph) s = .next t → P t)
    (emptyTake : ∀ s, P s → s.ph = .take → P { s with ph := .advance })
    (external : ∀ i s t, External i → P s → exec i s = .next t → P t)
    (settle : ∀ y s t, P s → P t → P (State.settleViews y s t)) : P t := by
  by_cases hr : p.rst = true
  · simp only [tick, hr, if_true] at h
    cases h
    exact reset _ hs
  · obtain ⟨s1, s2, s3, s4, h1, h2, h3, h4, rfl⟩ := tick_parts (by simpa using hr) h
    have p1 : P s1 := by
      rcases scanTick_cases h1 with ⟨_, rfl⟩ | ⟨_, _, ⟨u, hu, rfl⟩, _⟩ | ⟨ht, _, _, rfl⟩ | ⟨_, _, rfl⟩
      · exact timer _ _ hs
      · exact timer _ _ (micro _ _ hs hu)
      · exact timer _ _ (emptyTake _ hs ht)
      · exact timer _ _ hs
    have p2 : P s2 := by
      rcases whenPresented_cases h2 with ⟨_, e⟩ | ⟨_, rfl⟩
      · exact external _ _ _ external_start p1 e
      · exact p1
    have p3 : P s3 := by
      rcases whenPresented_cases h3 with ⟨_, e⟩ | ⟨_, rfl⟩
      · exact external _ _ _ external_stop p2 e
      · exact p2
    have p4 : P s4 := by
      rcases whenPresented_cases h4 with ⟨_, e⟩ | ⟨_, rfl⟩
      · exact external _ _ _ (external_deposit _) p3 e
      · exact p3
    exact settle _ _ _ hs p4

/-- Acquiring lines changes nothing but the list of lines held: the last acquired stands first. -/
theorem acquireAll_eq (ls : List PinLine) (s : State) :
    acquireAll ls s = { s with linesHeld := ls.reverse ++ s.linesHeld } := by
  induction ls generalizing s with
  | nil => rfl
  | cons l ls ih => simp [acquireAll] at ih ⊢; rw [ih]; simp [State.acquireLine]

/-- The three outcomes of a bring-up. -/
theorem bringUp_cases (c : Config) (b : BringUp) (s : State) :
    (∃ k, b.refused = some k ∧ bringUp c b s = .next { s with
      linesHeld := [], released := (b.order.take k).reverse, hostResult := some (.error .initializationFailure) }) ∨
    (b.refused = none ∧ b.taskStarts = false ∧ bringUp c b s = .next { State.resetBlock c s with
      linesHeld := [], released := b.order.reverse, hostResult := some (.error .taskStartFailure) }) ∨
    (b.refused = none ∧ b.taskStarts = true ∧ bringUp c b s = .next { State.resetBlock c s with
      run := .running, ph := .check, linesHeld := b.order.reverse, hostResult := some .success }) := by
  unfold bringUp
  cases hb : b.refused with
  | some k => exact .inl ⟨k, rfl, by simp [acquireAll_eq, abortBringUp, State.releaseLines]⟩
  | none =>
    cases ht : b.taskStarts with
    | false => exact .inr (.inl ⟨rfl, rfl, by simp [acquireAll_eq, abortBringUp, State.releaseLines, State.resetBlock]⟩)
    | true =>
      exact .inr (.inr ⟨rfl, rfl, by
        simp [acquireAll_eq, exec_start, State.resetBlock, State.setRun, State.goto, noteHostSuccess]⟩)

/-- A bring-up keeps a property that reset, START from reset and the host's own fields keep. -/
theorem bringUp_keeps (P : State → Prop) {c : Config} {b : BringUp} {s t : State} (hs : P s)
    (h : bringUp c b s = .next t)
    (reset : ∀ s, P s → P (State.resetBlock c s))
    (started : ∀ s, P s → P { State.resetBlock c s with run := .running, ph := .check })
    (host : ∀ s held rel res, P s → P { s with linesHeld := held, released := rel, hostResult := res }) : P t := by
  rcases bringUp_cases c b s with ⟨k, _, e⟩ | ⟨_, _, e⟩ | ⟨_, _, e⟩ <;> rw [e] at h <;> cases h
  · exact host s _ _ _ hs
  · exact host _ _ _ _ (reset s hs)
  · exact host _ _ s.released _ (started s hs)

end Sys2Proof.Machine
end

