-- ==== Sys2Proof/Tests/Slice0.lean ====
section
/-! SUPPORT. The model's own tests: ill-formed terms that the checks refuse, words written out from the tables of
30_encoding.md, the vectors of 95_test_vectors.md (each test names its line), and for every obligation with hypotheses a
concrete state and operands that meet all of them together, at the ends of their ranges. -/

namespace Sys2Proof.Tests

open Sys2Proof Sys2Proof.Machine

/-! ### Small states and operands -/

/-- The state an outcome answers; the fallback where it answers none. -/
def stateOf (o : Outcome) (fallback : State) : State :=
  match o with
  | .next t => t
  | .fault _ => fallback
  | .refused _ => fallback

/-- The state after one instruction. -/
def after (i : Instr) (s : State) : State := stateOf (exec i s) State.reset

/-- The state after one step. -/
def stepped (s : State) : State := stateOf (step s) State.reset

/-- The frame store with one byte set and every other byte 0. -/
def oneByte (row col : Nat) (v : Byte) : Frame :=
  Vector.ofFn fun r => Vector.ofFn fun b => if r.val = row ∧ b.val = col then v else 0

/-- The Frame `FC` of 95 P6: row 0 is `A5 3C 00 .. 00 01`, the other rows 0. -/
def frameFC : Frame :=
  Vector.ofFn fun r => Vector.ofFn fun b =>
    if r.val = 0 then if b.val = 0 then 0xA5 else if b.val = 1 then 0x3C else if b.val = 17 then 0x01 else 0 else 0

/-- A payload that repeats one character. -/
def chars (n : Nat) (ch : Byte) : List Byte := List.replicate n ch

/-- The scanner running at a position, everything else as reset leaves it. -/
def at_ (p : Phase) : State := { State.reset with run := .running, ph := p }

/-- A state with a Frame waiting in the slot. -/
def full (f : Frame) (s : State) : State := { s with pnd := f, rdy := true, rdyP := true, rdyS := true }

/-! ### Well-formedness: what the checks refuse -/

theorem smoke_opword : OpWord.wf (.s 13) = false ∧ OpWord.wf (.s 15) = false ∧ OpWord.wf (.x 0 0) = false ∧
    OpWord.wf (.s 12) = true ∧ OpWord.wf (.x 7 0) = true := by decide
theorem smoke_bringUp_duplicate :
    BringUp.wf { order := [.data, .data, .a0, .a1, .a2, .latch, .blank], refused := none, taskStarts := true } = false :=
  by decide
theorem smoke_bringUp_short : BringUp.wf { order := [.data, .clk], refused := none, taskStarts := true } = false := by decide
theorem smoke_bringUp_refused :
    BringUp.wf { order := [.data, .clk, .a0, .a1, .a2, .latch, .blank], refused := some 7, taskStarts := true } = false :=
  by decide
theorem smoke_config : Config.wf { tSel := 0 } = false ∧ Config.wf { dwell := 0 } = false ∧
    Config.wf Config.hardware = true := by decide
theorem smoke_instr : Instr.wf (.devWrite []) = true ∧ Instr.wf .idle = true := by decide

/-! ### Words written out from 30_encoding.md -/

/-- R85, the request vector: one bit per request; `dep_frame` with byte offset 54 at 0xFF is 95 P2's word. -/
theorem decode_requests : decode (.x 0b001 0) = .ok .start ∧ decode (.x 0b010 0) = .ok .stop ∧
    decode (.x 0b100 (0xFF <<< 432)) = .ok (.deposit (oneByte 3 0 0xFF)) ∧ decode (.x 0b000 0) = .error .noRequest := by
  decide +kernel

/-- R86, the position codes, the first half. -/
theorem decode_positions_low : decode (.s 0b0000) = .ok .idle ∧ decode (.s 0b0001) = .ok .check ∧
    decode (.s 0b0010) = .ok .take ∧ decode (.s 0b0011) = .ok .advance ∧ decode (.s 0b0100) = .ok .shiftData ∧
    decode (.s 0b0101) = .ok .shiftClkh ∧ decode (.s 0b0110) = .ok .shiftClkl := by decide

/-- R86, the second half, and the reserved codes of R91. -/
theorem decode_positions_high : decode (.s 0b0111) = .ok .blankOn ∧ decode (.s 0b1000) = .ok .select ∧
    decode (.s 0b1001) = .ok .latchOn ∧ decode (.s 0b1010) = .ok .latchOff ∧ decode (.s 0b1011) = .ok .blankOff ∧
    decode (.s 0b1100) = .ok .dwell ∧ decode (.s 0b1101) = .error (.reservedPosition 13) := by decide

/-- R87, R88: device calls and the payload. -/
theorem decode_calls : decode (.d 0b00 []) = .ok .devOpen ∧ decode (.d 0b01 []) = .ok .devRead ∧
    decode (.d 0b10 [0x30]) = .ok (.devWrite [0x30]) ∧ decode (.d 0b11 []) = .ok .devClose ∧
    decode (.p [0x30]) = .ok (.frameDecode [0x30]) := by decide

/-- The opcode table's numbering at its widths (log entry 6). -/
theorem table_words : decodeTableWord 3 1 = some .start ∧ decodeTableWord 3 2 = some .stop ∧
    decodeTableWord 4 12 = some .dwell ∧ decodeTableWord 4 13 = none ∧ decodeTableWord 2 3 = some .devClose ∧
    decodeTableWord 0 0 = some (.frameDecode []) ∧ decodeTableWord 8 7 = some .blankOn := by decide

/-- A placed word is what the next step runs. -/
theorem placed_word_runs : (stepped (State.reset.withFetchWord 8 8)).ph = .latchOn ∧
    (stepped (State.reset.withFetchWord 3 1)).run = .running ∧
    (stepped (State.reset.withFetchWord 2 0)).openCount = 1 := by decide

/-- R73, 95 P6: `dep_frame[7:0] = 0xA5`, `[15:8] = 0x3C`, `[143:136] = 0x01`, every other bit 0. -/
theorem packed_frameFC : packFrame frameFC = 0xA5 + (0x3C <<< 8) + (0x01 <<< 136) := by decide +kernel

/-! ### The vectors of 95_test_vectors.md, one step each -/

/-- P1: START from reset. -/
theorem test_start_from_reset : (after .start State.reset).run = .running ∧ (after .start State.reset).ph = .check := by
  decide
/-- 2.6: START in `Halted` is ignored. -/
theorem test_start_in_halted : (after .start { State.reset with run := .halted }).run = .halted := by decide
/-- P3: STOP in mid-row leaves `PH` and `BITCNT`. -/
theorem test_stop_in_running :
    let t := after .stop { at_ .shiftClkh with bitcnt := 40 }
    t.run = .stopping ∧ t.ph = .shiftClkh ∧ t.bitcnt = 40 := by decide
/-- 2.6: STOP in `Stopped` is ignored. -/
theorem test_stop_in_stopped : (after .stop State.reset).run = .stopped := by decide
/-- VS1. -/
theorem test_deposit_empty : (after (.deposit frameFC) State.reset).pnd = frameFC ∧
    (after (.deposit frameFC) State.reset).rdy = true := by decide
/-- VS2. -/
theorem test_deposit_full :
    let t := after (.deposit frameFC) (full (oneByte 1 2 3) State.reset)
    t.pnd = oneByte 1 2 3 ∧ t.depReady = false := by decide
/-- VS3. -/
theorem test_take_full :
    let t := after .take (full frameFC (at_ .take))
    t.act = frameFC ∧ t.rdy = false ∧ t.ph = .advance ∧ t.pnd = frameFC := by decide
/-- VS4. -/
theorem test_take_empty : (after .take (at_ .take)).act = Config.hardware.initFrame ∧
    (after .take (at_ .take)).ph = .advance := by decide
/-- R149. -/
theorem test_idle : after .idle State.reset = State.reset := rfl
/-- 2.6: CHECK in `Running`. -/
theorem test_check_running : (after .check (at_ .check)).ph = .take := by decide
/-- 2.6: CHECK in `Stopping`. -/
theorem test_check_stopping :
    let t := after .check { at_ .check with run := .stopping }
    t.run = .halted ∧ t.ph = .idle := by decide
/-- 2.6: ADVANCE 7 to 0. -/
theorem test_advance_wraps : (after .advance { at_ .advance with row := 7 }).row = 0 := by decide
/-- 2.6: ADVANCE 3 to 4, `BITCNT <- 0`. -/
theorem test_advance : (after .advance { at_ .advance with row := 3, bitcnt := 9 }).row = 4 ∧
    (after .advance { at_ .advance with row := 3, bitcnt := 9 }).bitcnt = 0 := by decide
/-- 2.5, SHIFT_DATA at `BITCNT` 0, 1, 7, 8, 13, 15. -/
theorem test_shiftData_bytes : [0, 1, 7, 8, 13, 15].map (fun n =>
    (after .shiftData { at_ .shiftData with act := frameFC, row := 0, bitcnt := BitVec.ofNat 8 n }).data) =
    [true, false, true, false, true, false] := by decide
/-- 2.5, SHIFT_DATA at `BITCNT` 136 and 143; R131: `ACT[3][0] = 0x08`, `BITCNT = 4`. -/
theorem test_shiftData_ends :
    (after .shiftData { at_ .shiftData with act := frameFC, row := 0, bitcnt := 136 }).data = false ∧
    (after .shiftData { at_ .shiftData with act := frameFC, row := 0, bitcnt := 143 }).data = true ∧
    (after .shiftData { at_ .shiftData with act := oneByte 3 0 0x08, row := 3, bitcnt := 4 }).data = true := by decide
/-- R132. -/
theorem test_shiftClkh : (after .shiftClkh (at_ .shiftClkh)).clk = true ∧
    (after .shiftClkh (at_ .shiftClkh)).ph = .shiftClkl := by decide
/-- 2.5, SHIFT_CLKL at `BITCNT = 142`. -/
theorem test_shiftClkl_counts :
    let t := after .shiftClkl { at_ .shiftClkl with bitcnt := 142, clk := true }
    t.bitcnt = 143 ∧ t.clk = false ∧ t.ph = .shiftData := by decide
/-- 2.5, SHIFT_CLKL at `BITCNT = 143`. -/
theorem test_shiftClkl_leaves :
    let t := after .shiftClkl { at_ .shiftClkl with bitcnt := 143, clk := true }
    t.bitcnt = 0 ∧ t.clk = false ∧ t.ph = .blankOn := by decide
/-- 2.6, the row-commit sequence for `ROW = 5`. -/
theorem test_blankOn : (after .blankOn (at_ .blankOn)).blank = true ∧ (after .blankOn (at_ .blankOn)).ph = .select := by
  decide
theorem test_select : (after .select { at_ .select with row := 5, a := 4 }).a = 0b101 := by decide
theorem test_latchOn : (after .latchOn (at_ .latchOn)).latch = true := by decide
theorem test_latchOff : (after .latchOff { at_ .latchOff with latch := true }).latch = false := by decide
theorem test_blankOff : (after .blankOff { at_ .blankOff with blank := true }).blank = false := by decide
theorem test_dwell : (after .dwell (at_ .dwell)).ph = .check := by decide
/-- VI1. -/
theorem test_open : (after .devOpen State.reset).openCount = 1 ∧
    (after .devOpen State.reset).results = [.success] := by decide
/-- R8: equal results returned one after another are two. -/
theorem test_results : (after .devClose (after .devOpen State.reset)).results = [.success, .success] := by decide
/-- VI8: block state unchanged. -/
theorem test_read : (after .devRead State.reset).rdy = false ∧ (after .devRead State.reset).run = .stopped := by decide
/-- VI3. -/
theorem test_close : (after .devClose { State.reset with openCount := 3 }).openCount = 3 := by decide
/-- VI5. -/
theorem test_write : (after (.devWrite (chars 288 0x30 ++ [0x0A])) State.reset).results = [.count 288] ∧
    (after (.devWrite (chars 288 0x30 ++ [0x0A])) State.reset).rdy = true := by decide +kernel
/-- VI6. -/
theorem test_write_short : (after (.devWrite (chars 100 0x30)) State.reset).results =
    [.error .insufficientData] ∧ (after (.devWrite (chars 100 0x30)) State.reset).rdy = false := by decide +kernel
/-- VD5. -/
theorem test_decode :
    (match (after (.frameDecode (chars 34 0x30 ++ [0x31, 0x32, 0x33, 0x34] ++ chars 248 0x30 ++ [0x35, 0x36]))
      State.reset).results with
    | [.frame f] => [byteOf f 0 17, byteOf f 1 0, byteOf f 7 17, byteOf f 0 0]
    | _ => []) = [0x12, 0x34, 0x56, 0] := by decide +kernel
/-- VD14: the least index; VD15: the length is checked first. -/
theorem test_decode_errors :
    (after (.frameDecode (chars 5 0x30 ++ [0x67] ++ chars 100 0x30 ++ [0x68] ++ chars 181 0x30)) State.reset).results =
      [.error (.invalidHexDigit 5)] ∧
    (after (.frameDecode (chars 5 0x30 ++ [0x67] ++ chars 200 0x30)) State.reset).results =
      [.error .insufficientData] := by decide +kernel
/-- 2.1: bytes of nibble pairs, and the ASCII neighbours of the hex characters. -/
theorem test_hexval : hexval 0x61 = some 10 ∧ hexval 0x46 = some 15 ∧ hexval 0x39 = some 9 ∧ hexval 0x2F = none ∧
    hexval 0x3A = none ∧ hexval 0x40 = none ∧ hexval 0x60 = none ∧ hexval 0x67 = none ∧ byteOfNibbles 1 0 = 0x10 := by
  decide
/-- VD17: `NONHEX = draw`: character 5 is the low nibble of byte 2. -/
theorem test_draw :
    (match decodePayload .draw (fun _ => 9) (chars 5 0x30 ++ [0x67] ++ chars 282 0x30) with
    | .ok f => [byteOf f 0 2, byteOf f 0 3]
    | .error _ => []) = [9, 0] := by decide +kernel
/-- 2.3: the first characters of `ENCODE(INIT_FRAME)`, rows 0 and 7. -/
theorem test_encode : (encodeFrame Config.hardware.initFrame).take 2 = [0x30, 0x31] ∧
    ((encodeFrame Config.hardware.initFrame).drop 252).take 2 = [0x38, 0x30] := by decide +kernel
/-- 2.8: reset from mid-cycle. -/
theorem test_reset :
    let t := stepped { full frameFC (at_ .latchOff) with
      latch := true, blank := true, a := 5, row := 5, data := true, script := [.reset] }
    t.run = .stopped ∧ t.ph = .idle ∧ t.latch = false ∧ t.blank = false ∧ t.a = 0 ∧ t.row = 7 ∧ t.rdy = false ∧
      t.act = Config.hardware.initFrame ∧ t.data = false := by decide
/-- 2.9, second and fourth line: START and STOP in one tick; STOP in the tick of CHECK. -/
theorem test_tick_requests :
    let p := fun x => ({ rst := false, xreq := x, depFrame := 0 } : Ports)
    let t := stateOf (tick Config.hardware (p 0b011) SyncPass.oneClock State.reset) State.reset
    let u := stateOf (tick Config.hardware (p 0b010) SyncPass.oneClock (at_ .check)) State.reset
    t.run = .stopping ∧ t.ph = .check ∧ u.run = .stopping ∧ u.ph = .take := by decide
/-- 2.9, fifth line: DEPOSIT in the tick of a TAKE that finds nothing. -/
theorem test_tick_deposit :
    let t := stateOf (tick Config.hardware { rst := false, xreq := 0b100, depFrame := 0xA5 } SyncPass.oneClock
      (at_ .take)) State.reset
    t.ph = .advance ∧ t.rdy = true ∧ byteOf t.pnd 0 0 = 0xA5 ∧ t.act = Config.hardware.initFrame := by decide +kernel
/-- 2.10: the default cycle; a stop inside the dwell hold. -/
theorem test_tick_dwell :
    let s : State := { at_ .check with run := .stopping, tmr := 999 }
    cycleTicks Config.hardware = 2440 ∧
      (stateOf (tick Config.hardware quietPorts SyncPass.oneClock s) State.reset).run = .halted := by decide

/-! ### Witnesses: states and operands that meet the hypotheses of each obligation -/

/-- A halted state, a state with a held call, a state in the serializer, all of which meet the invariant. -/
def halted : State := { State.reset with run := .halted }
def waitingState : State :=
  { full frameFC (at_ .advance) with held := [{ frame := oneByte 1 1 1, caller := .write }] }
def committed : State := { at_ .dwell with row := 2, a := 2 }
/-- A bring-up in the order R226 names the lines. -/
def plan (refused : Option Nat) (starts : Bool) : BringUp :=
  { order := [.data, .clk, .a0, .a1, .a2, .latch, .blank], refused := refused, taskStarts := starts }

theorem witness_reset : ({ State.reset with script := [Event.reset, .scan] } : State).script = .reset :: [.scan] ∧
    (Event.reset = .reset ∨ ∃ x f y, Event.reset = .tick { rst := true, xreq := x, depFrame := f } y) :=
  ⟨rfl, .inl rfl⟩
theorem witness_reset_tick :
    let e := Event.tick { rst := true, xreq := 0b111, depFrame := 5 } SyncPass.oneClock
    ({ State.reset with script := [e] } : State).script = e :: [] ∧
      (e = .reset ∨ ∃ x f y, e = .tick { rst := true, xreq := x, depFrame := f } y) :=
  ⟨rfl, .inr ⟨_, _, _, rfl⟩⟩
theorem witness_slot : State.reset.rdy = false ∧ State.reset.held = [] ∧ (full frameFC (at_ .take)).rdy = true := by decide
theorem witness_shiftData :
    (at_ .shiftData).row.toNat = (7 : Fin 8).val ∧ (at_ .shiftData).bitcnt.toNat = 8 * (0 : Fin 18).val + (0 : Fin 8).val ∧
      ({ at_ .shiftData with row := 0, bitcnt := 143 } : State).row.toNat = (0 : Fin 8).val ∧
      ({ at_ .shiftData with row := 0, bitcnt := 143 } : State).bitcnt.toNat = 8 * (17 : Fin 18).val + (7 : Fin 8).val := by
  decide
theorem witness_clock : ({ at_ .shiftClkl with bitcnt := 143 } : State).bitcnt.toNat = 143 ∧
    ({ at_ .shiftClkl with bitcnt := 142 } : State).bitcnt.toNat ≠ 143 ∧ (at_ .shiftClkl).bitcnt.toNat ≠ 143 := by decide
theorem witness_run : State.reset.run = .stopped ∧ (at_ .check).run = .running ∧ (at_ .check).run ≠ .stopping ∧
    ({ at_ .check with run := .stopping } : State).run = .stopping ∧ halted.run ≠ .stopped ∧ halted.run ≠ .running := by
  decide
/-- Every position has a next state, with `CHECK` in both run states and `SHIFT_CLKL` at both ends. -/
theorem witness_successor : (∃ t, scan (at_ .check) = .next t ∧ (at_ .check).run = .running) ∧
    (∃ t, scan { at_ .check with run := .stopping } = .next t) ∧
    (∃ t, scan { at_ .shiftClkl with bitcnt := 142 } = .next t) ∧
    (∃ t, scan { at_ .shiftClkl with bitcnt := 143 } = .next t) :=
  ⟨⟨_, rfl, rfl⟩, ⟨_, rfl⟩, ⟨_, rfl⟩, ⟨_, rfl⟩⟩

/-- A payload of exactly 288 hex characters, one with the bad character first, one with it last. -/
theorem witness_payload_hex : 288 ≤ (chars 288 0x46).length ∧
    ∀ k < 288, (hexval (charAt (chars 288 0x46) k)).isSome = true := by decide +kernel
theorem witness_payload_bad_first : 288 ≤ ([0x67] ++ chars 287 0x30).length ∧
    hexval (charAt ([0x67] ++ chars 287 0x30) 0) = none ∧
    ∀ j < 0, (hexval (charAt ([0x67] ++ chars 287 0x30) j)).isSome = true := by decide +kernel
theorem witness_payload_bad_last : 288 ≤ (chars 287 0x30 ++ [0x67]).length ∧
    hexval (charAt (chars 287 0x30 ++ [0x67]) 287) = none ∧
    ∀ j < 287, (hexval (charAt (chars 287 0x30 ++ [0x67]) j)).isSome = true := by decide +kernel
theorem witness_payload_pair : hexval (charAt (chars 288 0x46) (2 * (18 * (7 : Fin 8).val + (17 : Fin 18).val))) = some 15 ∧
    hexval (charAt (chars 288 0x46) (2 * (18 * (7 : Fin 8).val + (17 : Fin 18).val) + 1)) = some 15 := by decide +kernel
theorem witness_short : ([] : List Byte).length < 288 ∧ (chars 287 0x30).length < 288 := by decide +kernel
theorem witness_raise : decodeNow (chars 287 0x30) State.reset = .error .insufficientData ∧
    decodeNow (chars 287 0x30 ++ [0x67]) State.reset = .error (.invalidHexDigit 287) := by
  decide +kernel
theorem witness_hex : (0x30 : Byte).toNat = 0x30 + 0 ∧ (0x39 : Byte).toNat = 0x30 + 9 ∧ (0x41 : Byte).toNat = 0x41 + 0 ∧
    (0x66 : Byte).toNat = 0x61 + 5 ∧ (0x2F : Byte).toNat < 0x30 ∧ 0x39 < (0x3A : Byte).toNat ∧ (0x40 : Byte).toNat < 0x41 ∧
    0x46 < (0x47 : Byte).toNat ∧ (0x60 : Byte).toNat < 0x61 ∧ 0x66 < (0xFF : Byte).toNat := by decide
theorem witness_case : [0x61, 0x46].map upperCase = [0x41, 0x66].map upperCase := by decide
theorem witness_encode : (chars 288 0x61).length = 288 ∧
    decodePayload .reject (fun _ => 0) (chars 288 0x61) = .ok (assemble (fun _ => 0) (chars 288 0x61)) := by decide +kernel
theorem witness_288 : (chars 288 0x61).length = 288 := by decide +kernel
theorem witness_draw : 288 ≤ (chars 288 0x67).length := by decide +kernel
theorem witness_request (xreq : BitVec 3) :
    ({ State.reset with script := [.request xreq 7] } : State).script = .request xreq 7 :: [] := rfl
theorem witness_fetch : fetch { State.reset with script := [.request 0b101 7] } = some (.x 0b101 7) ∧
    decode (.x 0b101 7) = .ok .start ∧ fetch (at_ .take) = some (.s 2) ∧ decode (.s 2) = .ok .take :=
  ⟨rfl, rfl, rfl, rfl⟩
theorem witness_owner : ∃ t, exec .select committed = .next t := ⟨_, rfl⟩
theorem witness_scanning : Phase.select ≠ .take ∧ ∃ t, exec (microOp .select) committed = .next t := ⟨by decide, _, rfl⟩
theorem witness_producer : (∀ p : Phase, Instr.devOpen ≠ microOp p) ∧ (∃ t, exec .devOpen State.reset = .next t) ∧
    depositOperand .devOpen State.reset = none := by
  refine ⟨?_, ⟨_, rfl⟩, rfl⟩
  intro p
  cases p <;> decide

/-- The invariant holds in states that run: a full slot with a held call, a shown row, a halted block. -/
theorem witness_invariant : BlockInv waitingState := by decide
theorem witness_invariant_committed : BlockInv committed := by decide
theorem witness_invariant_halted : BlockInv halted := by decide
def lastPulse : State := { at_ .shiftClkl with bitcnt := 143, clk := true }
theorem witness_invariant_last_pulse : BlockInv lastPulse := by decide
theorem witness_invariant_step : BlockInv waitingState ∧ ∃ t, step waitingState = .next t := ⟨by decide, _, rfl⟩
theorem witness_committed : BlockInv committed ∧ CommittedInv committed (some 2) ∧ resets committed = false ∧
    ∃ t, step committed = .next t := ⟨by decide, by decide, rfl, _, rfl⟩
theorem witness_committed_none : BlockInv State.reset ∧ CommittedInv State.reset none ∧ resets State.reset = false ∧
    ∃ t, step State.reset = .next t := ⟨by decide, by decide, rfl, _, rfl⟩
theorem witness_halted : BlockInv halted ∧ halted.run = .halted ∧ resets halted = false ∧ ∃ t, step halted = .next t :=
  ⟨by decide, rfl, rfl, _, rfl⟩
/-- The flag falls in one witness and rises in the other. -/
theorem witness_ready_falls : ViewInv (full frameFC (at_ .take)) ∧ resets (full frameFC (at_ .take)) = false ∧
    (full frameFC (at_ .take)).rdy = true ∧ ∃ t, step (full frameFC (at_ .take)) = .next t ∧ t.rdy = false :=
  ⟨by decide, rfl, rfl, _, rfl, rfl⟩
theorem witness_ready_rises :
    let s : State := { State.reset with held := [{ frame := frameFC, caller := .port }] }
    ViewInv s ∧ resets s = false ∧ s.rdy = false ∧ ∃ t, step s = .next t ∧ t.rdy = true :=
  ⟨by decide, rfl, rfl, _, rfl, rfl⟩
/-- A run that delivers: a Frame deposited into an empty slot by the bare port. -/
theorem witness_delivers : ViewInv State.reset ∧ ∃ t, Delivers { State.reset with script := [.request 0b100 (packFrame frameFC)] }
    ([] ++ (incoming { State.reset with script := [.request 0b100 (packFrame frameFC)] }).toList)
    ([] ++ (outgoing { State.reset with script := [.request 0b100 (packFrame frameFC)] }).toList) t :=
  ⟨by decide, _, .more (.start _) rfl rfl⟩
theorem witness_reaches : Reaches { State.reset with script := [.scan] } [] { State.reset with script := [.scan] } :=
  .start _
theorem witness_dead : SameButDeadPnd { State.reset with pnd := frameFC } { State.reset with pnd := oneByte 1 1 1 } ∧
    frameFC ≠ oneByte 1 1 1 ∧ (∃ t, step { State.reset with pnd := frameFC } = .next t) ∧
    ∃ t, step { State.reset with pnd := oneByte 1 1 1 } = .next t :=
  ⟨⟨rfl, by decide⟩, by decide, ⟨_, rfl⟩, _, rfl⟩
theorem witness_held : BlockInv waitingState ∧ waitingState.run = .running ∧ waitingState.script = [] ∧
    waitingState.held = { frame := oneByte 1 1 1, caller := .write } :: [] ∧ waitingState.rdy = true := by decide
/-- The held call of a bare DEPOSIT, and the middle one of three that the script names. -/
def waitingPort : State := { waitingState with held := [{ frame := oneByte 1 1 1, caller := .port }] }
theorem witness_held_port : BlockInv waitingPort ∧ waitingPort.run = .running ∧ waitingPort.script = [] ∧
    waitingPort.held = { frame := oneByte 1 1 1, caller := .port } :: [] ∧ waitingPort.rdy = true := by decide
def threeHeld (caller : Caller) (e : Event) : State :=
  { State.reset with
    script := [e]
    held := [{ frame := frameFC, caller := .port }, { frame := oneByte 1 1 1, caller := caller },
      { frame := frameFC, caller := .write }] }
theorem witness_named : let h (c : Caller) : HeldCall := { frame := oneByte 1 1 1, caller := c }
    (∀ c e, (threeHeld c e).held = [{ frame := frameFC, caller := .port }] ++ h c ::
      [{ frame := frameFC, caller := .write }]) ∧
    (threeHeld .write (.resume 1)).script = [.resume 1] ∧ (threeHeld .write (.resume 1)).rdy = false ∧
    (full frameFC (threeHeld .port (.resume 1))).rdy = true ∧
    (threeHeld .port (.withdraw 1)).script = [.withdraw 1] ∧ (h .port).caller = .port ∧ (h .write).caller = .write :=
  ⟨fun _ _ => rfl, rfl, rfl, rfl, rfl, rfl, rfl⟩
theorem witness_pulse : (at_ .shiftData).ph = .shiftData ∧ (at_ .shiftData).row.toNat = (7 : Fin 8).val ∧
    (at_ .shiftData).bitcnt.toNat = 8 * (0 : Fin 18).val + (0 : Fin 8).val ∧
    ({ at_ .shiftData with bitcnt := 143 } : State).bitcnt.toNat = 8 * (17 : Fin 18).val + (7 : Fin 8).val := by decide
theorem witness_serializer : (at_ .shiftData).ph = .shiftData ∧ (at_ .shiftData).bitcnt = 0 ∧
    (at_ .shiftData).clk = false ∧ 143 = 8 * (17 : Fin 18).val + (7 : Fin 8).val ∧
    (at_ .shiftData).row.toNat = (7 : Fin 8).val := by decide
theorem witness_cycle : (at_ .check).ph = .check ∧ (at_ .check).run = .running ∧ (at_ .check).rdyP = (at_ .check).rdy ∧
    (at_ .check).rdyS = (at_ .check).rdy ∧ (0 : Fin 8).val = ((at_ .check).row.toNat + 1) % 8 ∧ OneClock (at_ .check) ∧
    (at_ .check).tmr = 0 := by decide
theorem witness_stopping : BlockInv { committed with run := .stopping } ∧
    ({ committed with run := .stopping } : State).run = .stopping ∧ committed.ph ≠ .check ∧
    BlockInv { at_ .check with run := .stopping } ∧ ({ at_ .check with run := .stopping } : State).ph = .check := by decide
theorem witness_display : (at_ .advance).ph = .advance ∧ (at_ .advance).clk = false ∧ (at_ .advance).latch = false := by
  decide
/-- A tick in IDLE with START and STOP together, one in the middle of a hold, and one in which the scanner is due. -/
theorem witness_tick : OneClock State.reset ∧ State.reset.ph = .idle ∧
    OneClock { at_ .check with tmr := 1999 } ∧ State.due { at_ .check with tmr := 1999 } = false ∧
    OneClock (at_ .take) ∧ State.due (at_ .take) = true ∧
    ({ rst := false, xreq := 0b011, depFrame := 0 } : Ports).rst = false := by
  decide
theorem witness_tick_take : OneClock (full frameFC (at_ .take)) ∧ (full frameFC (at_ .take)).rdy = true ∧
    (full frameFC (at_ .take)).ph = .take ∧ (full frameFC (at_ .take)).tmr = 0 ∧
    (full frameFC (at_ .take)).held = [] := by decide
theorem witness_hold : Config.hardware.wf = true ∧ OneClock (at_ .dwell) ∧ (at_ .dwell).tmr = 0 ∧
    (at_ .dwell).ph ≠ .idle ∧ (at_ .dwell).run ≠ .stopping ∧ 2000 ≤ hold Config.hardware (at_ .dwell).ph ∧
    ∃ t, exec (microOp (at_ .dwell).ph) (at_ .dwell) = .next t :=
  ⟨by decide, by decide, rfl, by decide, by decide, by decide, _, rfl⟩
theorem witness_stop_dwell : OneClock { at_ .check with run := .stopping, tmr := 1999 } ∧
    ({ at_ .check with run := .stopping, tmr := 1999 } : State).ph = .check := by decide
/-- Lagging views: a Frame deposited that the scanner does not see yet. -/
theorem witness_lag :
    let s : State := { at_ .take with rdy := true, rdyP := true }
    ViewInv s ∧ quietPorts.rst = false ∧
      ∃ t, tick Config.hardware quietPorts { toScanner := false, toProducer := true } s = .next t :=
  ⟨by decide, rfl, _, rfl⟩
theorem witness_bringUp_refused : (plan (some 6) true).wf = true ∧ (plan (some 6) true).refused = some 6 ∧
    (plan (some 0) true).wf = true ∧ (plan (some 0) true).refused = some 0 ∧
    ({ halted with script := [.bringUp (plan (some 6) true)] } : State).script = .bringUp (plan (some 6) true) :: [] := by
  decide
theorem witness_bringUp : (plan none true).wf = true ∧ (plan none true).refused = none ∧ (plan none false).wf = true ∧
    (plan none false).taskStarts = false ∧
    ({ halted with script := [.bringUp (plan none true)] } : State).script = .bringUp (plan none true) :: [] := by decide
theorem witness_release : (plan none true).wf = true ∧ ({ halted with script := [.release] } : State).script = .release :: [] ∧
    ({ halted with script := [.release] } : State).run = .halted := by decide

end Sys2Proof.Tests
end

/-! # Proofs for 00_scope.md: what every step answers (O37) and the dead bytes of `PND` (O47) -/

section
/-! SUPPORT. Outcomes that are next states of a given kind, and how `andThen` composes them. -/

namespace Sys2Proof.Machine

/-- The outcome is a next state, and that state satisfies `P`. -/
def Answers (P : State → Prop) (o : Outcome) : Prop := ∃ t : State, o = .next t ∧ P t

theorem answers_next {P : State → Prop} {t : State} (h : P t) : Answers P (.next t) := ⟨t, rfl, h⟩

theorem answers_mono {P Q : State → Prop} {o : Outcome} (hPQ : ∀ t, P t → Q t) (h : Answers P o) : Answers Q o := by
  obtain ⟨t, e, ht⟩ := h
  exact ⟨t, e, hPQ t ht⟩

theorem answers_andThen {P Q : State → Prop} {o : Outcome} {f : State → Outcome} (ho : Answers P o)
    (hf : ∀ t, P t → Answers Q (f t)) : Answers Q (andThen o f) := by
  obtain ⟨t, rfl, ht⟩ := ho
  exact hf t ht

/-- Both outcomes are next states, and these are related by `R`. -/
def AnswerAlike (R : State → State → Prop) (o o' : Outcome) : Prop := Answers (fun s => Answers (R s) o') o

theorem answerAlike_next {R : State → State → Prop} {s t : State} (h : R s t) : AnswerAlike R (.next s) (.next t) :=
  answers_next (answers_next h)

theorem answerAlike_andThen {R Q : State → State → Prop} {o o' : Outcome} {f f' : State → Outcome}
    (ho : AnswerAlike R o o') (hf : ∀ s t, R s t → AnswerAlike Q (f s) (f' t)) :
    AnswerAlike Q (andThen o f) (andThen o' f') := by
  obtain ⟨s, rfl, t, rfl, h⟩ := ho
  exact hf s t h

end Sys2Proof.Machine
end

section
/-! The results that a step returns: an operation executed, or a held call resumed, returns at most one; every other part
of a step returns none. -/

namespace Sys2Proof.Machine

/-- The results returned are `rs`, or `rs` and one more. -/
def AtMostOneMore (rs : List CallResult) (t : State) : Prop := t.results = rs ∨ ∃ r, t.results = r :: rs

theorem complete_atMostOneMore (r : CallResult) (s : State) : AtMostOneMore s.results (State.complete r s) := .inr ⟨r, rfl⟩

theorem answer_atMostOneMore (c : Caller) (s : State) : AtMostOneMore s.results (State.answer c s) := by
  cases c with
  | port => exact .inl rfl
  | write => exact complete_atMostOneMore _ s

theorem present_atMostOneMore (f : Frame) (c : Caller) (s : State) : AtMostOneMore s.results (State.present f c s) := by
  cases hr : s.rdy with
  | true => rw [present_full f c hr]; exact .inl rfl
  | false => rw [present_empty f c hr]; exact answer_atMostOneMore c (State.fillSlot f s)

/-- The bare DEPOSIT port gets no result (44_device_interface.md rule R184 speaks of WRITE only). -/
theorem present_port_results (f : Frame) (s : State) : (State.present f .port s).results = s.results := by
  cases hr : s.rdy with
  | true => rw [present_full f .port hr]
  | false => rw [present_empty f .port hr]; rfl

theorem resumeHeld_atMostOneMore (k : Nat) (s : State) : AtMostOneMore s.results (State.resumeHeld k s) := by
  rcases resumeHeld_cases k s with ⟨e, _⟩ | ⟨h, _, _, e⟩
  · rw [e]; exact .inl rfl
  · rw [e]; exact answer_atMostOneMore _ (State.fillSlot h.frame { s with held := s.held.eraseIdx k })

theorem withdrawHeld_results (k : Nat) (s : State) : (State.withdrawHeld k s).results = s.results := by
  rw [withdrawHeld_eq]

theorem requeue_results (w : OpWord) (s : State) : (requeue w s).results = s.results := by
  rw [requeue_eq]

theorem releaseAtHalt_results (s : State) : (releaseAtHalt s).results = s.results := by
  unfold releaseAtHalt
  split <;> rfl

/-! ### Instructions -/

/-- A micro-operation returns nothing to anybody (43_row_scan_driver.md rule R162). -/
theorem exec_microOp_answers (p : Phase) (s : State) :
    Answers (fun t => t.results = s.results) (exec (microOp p) s) := by
  cases p
  case check | take | shiftClkl => exact answers_next (by split <;> rfl)
  all_goals exact answers_next rfl

theorem exec_start_answers (s : State) : Answers (fun t => t.results = s.results) (exec .start s) :=
  answers_next (by split <;> rfl)

theorem exec_stop_answers (s : State) : Answers (fun t => t.results = s.results) (exec .stop s) :=
  answers_next (by split <;> rfl)

theorem exec_deposit_answers (f : Frame) (s : State) :
    Answers (fun t => t.results = s.results) (exec (.deposit f) s) :=
  answers_next (present_port_results f s)

/-- An instruction returns at most one result. -/
theorem exec_atMostOneMore (i : Instr) (s : State) : Answers (AtMostOneMore s.results) (exec i s) := by
  by_cases hi : External i
  · rcases external_cases hi with rfl | rfl | ⟨f, rfl⟩ | rfl | rfl | ⟨c, rfl⟩ | rfl | ⟨c, rfl⟩
    · exact answers_mono (fun _ => .inl) (exec_start_answers s)
    · exact answers_mono (fun _ => .inl) (exec_stop_answers s)
    · exact answers_mono (fun _ => .inl) (exec_deposit_answers f s)
    · exact answers_next (complete_atMostOneMore _ _)
    · exact answers_next (complete_atMostOneMore _ _)
    · cases h : decodeNow c s with
      | error e => exact ⟨_, exec_devWrite_error h, complete_atMostOneMore _ s⟩
      | ok f => exact ⟨_, exec_devWrite_ok h, present_atMostOneMore f .write s⟩
    · exact answers_next (complete_atMostOneMore .success s)
    · cases h : decodeNow c s with
      | error e => exact ⟨_, exec_frameDecode_error h, complete_atMostOneMore _ s⟩
      | ok f => exact ⟨_, exec_frameDecode_ok h, complete_atMostOneMore _ s⟩
  · obtain ⟨p, rfl⟩ : ∃ p, i = microOp p := by simpa [External] using hi
    exact answers_mono (fun _ => .inl) (exec_microOp_answers p s)

theorem runWord_atMostOneMore (w : OpWord) (s : State) : Answers (AtMostOneMore s.results) (runWord w s) := by
  rcases runWord_cases w s with ⟨i, _, e⟩ | e
  · rw [e, ← requeue_results w s]
    exact exec_atMostOneMore i (requeue w s)
  · rw [e]
    exact answers_next (.inl rfl)

/-! ### A tick and a bring-up return nothing -/

theorem scanTick_answers (c : Config) (s : State) : Answers (fun t => t.results = s.results) (scanTick c s) := by
  by_cases hp : s.ph = .idle
  · rw [scanTick_idle c hp]
    exact answers_next rfl
  cases hd : State.due s with
  | false =>
    rw [scanTick_waiting c hp hd]
    exact answers_next rfl
  | true =>
    have hm : Answers (fun t => t.results = s.results) (microTick s) := by
      unfold microTick
      split
      · exact answers_next rfl
      · exact exec_microOp_answers s.ph s
    rw [scanTick_due c hp hd]
    exact answers_andThen hm fun t ht => answers_next ht

theorem whenPresented_answers (b : Bool) {i : Instr} {s : State}
    (hi : Answers (fun t => t.results = s.results) (exec i s)) :
    Answers (fun t => t.results = s.results) (whenPresented b i s) := by
  cases b with
  | false => exact answers_next rfl
  | true => exact hi

theorem tick_answers (c : Config) (p : Ports) (y : SyncPass) (s : State) :
    Answers (fun t => t.results = s.results) (tick c p y s) := by
  unfold tick
  split
  · exact answers_next rfl
  · refine answers_andThen (scanTick_answers c s) fun s1 h1 => ?_
    rw [← h1]
    refine answers_andThen (whenPresented_answers _ (exec_start_answers s1)) fun s2 h2 => ?_
    rw [← h2]
    refine answers_andThen (whenPresented_answers _ (exec_stop_answers s2)) fun s3 h3 => ?_
    rw [← h3]
    exact answers_andThen (whenPresented_answers _ (exec_deposit_answers _ s3)) fun s4 h4 => answers_next h4

theorem bringUp_answers (c : Config) (b : BringUp) (s : State) :
    Answers (fun t => t.results = s.results) (bringUp c b s) := by
  rcases bringUp_cases c b s with ⟨k, _, e⟩ | ⟨_, _, e⟩ | ⟨_, _, e⟩ <;> rw [e] <;> exact answers_next rfl

/-! ### The step -/

theorem perform_atMostOneMore (e : Event) (s : State) : Answers (AtMostOneMore s.results) (perform e s) := by
  cases e with
  | scan => exact runWord_atMostOneMore _ s
  | request x f => exact runWord_atMostOneMore (.x x f) s
  | call d c => exact runWord_atMostOneMore (.d d c) s
  | text c => exact runWord_atMostOneMore (.p c) s
  | resume k => exact answers_next (resumeHeld_atMostOneMore k s)
  | withdraw k => exact answers_next (.inl (withdrawHeld_results k s))
  | reset => exact answers_next (.inl rfl)
  | tick p y => exact answers_mono (fun _ => .inl) (tick_answers _ p y s)
  | bringUp b => exact answers_mono (fun _ => .inl) (bringUp_answers _ b s)
  | release => exact answers_next (.inl (releaseAtHalt_results s))

theorem autonomous_atMostOneMore (s : State) : Answers (AtMostOneMore s.results) (autonomous s) := by
  unfold autonomous
  split
  · exact runWord_atMostOneMore _ s
  · split
    · exact runWord_atMostOneMore _ s
    · exact answers_next (resumeHeld_atMostOneMore 0 s)

theorem step_atMostOneMore (s : State) : Answers (AtMostOneMore s.results) (step s) := by
  cases hsc : s.script with
  | nil =>
    rw [step_script_nil hsc]
    exact autonomous_atMostOneMore s
  | cons e es =>
    rw [step_script_cons hsc]
    exact perform_atMostOneMore e { s with script := es }

/-- Settles O37: each part of a step answers a next state and returns at most one result. -/
theorem everyStepAnswersANextState : Obligations.EveryStepAnswersANextState := by
  intro s
  obtain ⟨t, e, h⟩ := step_atMostOneMore s
  refine ⟨t, e, h.imp_right ?_⟩
  rintro ⟨r, hr⟩
  exact ⟨r, hr, hr⟩

end Sys2Proof.Machine
end

section
/-! The dead bytes of `PND` (41_pending_slot.md rule R120): every part of a step takes two states that differ at most in them
to two states that differ at most in them. Only TAKE reads `PND`, and only on a full slot; DEPOSIT and reset overwrite it. -/

namespace Sys2Proof.Machine

/-- The second state is the first with some Frame `g` in the slot, the same one if the slot is full. -/
theorem sameButDeadPnd_iff {s t : State} :
    SameButDeadPnd s t ↔ ∃ g, t = { s with pnd := g } ∧ (s.rdy = true → g = s.pnd) := by
  constructor
  · rintro ⟨e, h⟩
    exact ⟨t.pnd, e, h⟩
  · rintro ⟨g, rfl, h⟩
    exact ⟨rfl, h⟩

theorem sameButDeadPnd_refl (s : State) : SameButDeadPnd s s := ⟨rfl, fun _ => rfl⟩

theorem SameButDeadPnd.rdy_eq {s t : State} (h : SameButDeadPnd s t) : t.rdy = s.rdy := by rw [h.1]
theorem SameButDeadPnd.rdyP_eq {s t : State} (h : SameButDeadPnd s t) : t.rdyP = s.rdyP := by rw [h.1]
theorem SameButDeadPnd.ph_eq {s t : State} (h : SameButDeadPnd s t) : t.ph = s.ph := by rw [h.1]
theorem SameButDeadPnd.script_eq {s t : State} (h : SameButDeadPnd s t) : t.script = s.script := by rw [h.1]

/-- What two states alike but for dead bytes show is the same: no pin, port or result carries a byte of `PND`. -/
theorem observe_eq_of_sameButDeadPnd {s t : State} (h : SameButDeadPnd s t) : observe s = observe t := by
  obtain ⟨g, rfl, _⟩ := sameButDeadPnd_iff.1 h
  rfl

/-! ### Operations -/

theorem present_sameButDeadPnd (f : Frame) (c : Caller) {s t : State} (h : SameButDeadPnd s t) :
    SameButDeadPnd (State.present f c s) (State.present f c t) := by
  cases hr : s.rdy with
  | true =>
    rw [present_full f c hr, present_full f c (h.rdy_eq.trans hr)]
    obtain ⟨g, rfl, hg⟩ := sameButDeadPnd_iff.1 h
    exact ⟨rfl, hg⟩
  | false =>
    rw [present_empty f c hr, present_empty f c (h.rdy_eq.trans hr)]
    obtain ⟨g, rfl, _⟩ := sameButDeadPnd_iff.1 h
    exact sameButDeadPnd_refl _

theorem resumeHeld_sameButDeadPnd (k : Nat) {s t : State} (h : SameButDeadPnd s t) :
    SameButDeadPnd (State.resumeHeld k s) (State.resumeHeld k t) := by
  obtain ⟨g, rfl, hg⟩ := sameButDeadPnd_iff.1 h
  unfold State.resumeHeld
  dsimp only
  split
  · exact ⟨rfl, hg⟩
  · split
    · exact ⟨rfl, hg⟩
    · exact sameButDeadPnd_refl _

theorem withdrawHeld_sameButDeadPnd (k : Nat) {s t : State} (h : SameButDeadPnd s t) :
    SameButDeadPnd (State.withdrawHeld k s) (State.withdrawHeld k t) := by
  obtain ⟨g, rfl, hg⟩ := sameButDeadPnd_iff.1 h
  unfold State.withdrawHeld
  dsimp only
  split
  · exact ⟨rfl, hg⟩
  · split <;> exact ⟨rfl, hg⟩

theorem requeue_sameButDeadPnd (w : OpWord) {s t : State} (h : SameButDeadPnd s t) :
    SameButDeadPnd (requeue w s) (requeue w t) := by
  obtain ⟨g, rfl, hg⟩ := sameButDeadPnd_iff.1 h
  cases w with
  | x xreq f => unfold requeue; dsimp only; split <;> exact ⟨rfl, hg⟩
  | s c => exact ⟨rfl, hg⟩
  | d d c => exact ⟨rfl, hg⟩
  | p c => exact ⟨rfl, hg⟩

/-- Reset draws a fresh Frame for the slot, whatever stood there. -/
theorem resetBlock_eq_of_sameButDeadPnd (c : Config) {s t : State} (h : SameButDeadPnd s t) :
    State.resetBlock c s = State.resetBlock c t := by
  obtain ⟨g, rfl, _⟩ := sameButDeadPnd_iff.1 h
  rfl

theorem releaseAtHalt_sameButDeadPnd {s t : State} (h : SameButDeadPnd s t) :
    SameButDeadPnd (releaseAtHalt s) (releaseAtHalt t) := by
  obtain ⟨g, rfl, hg⟩ := sameButDeadPnd_iff.1 h
  unfold releaseAtHalt
  dsimp only
  split <;> exact ⟨rfl, hg⟩

theorem settleViews_sameButDeadPnd (y : SyncPass) {s t s' t' : State} (h : SameButDeadPnd s t)
    (h' : SameButDeadPnd s' t') : SameButDeadPnd (State.settleViews y s s') (State.settleViews y t t') := by
  obtain ⟨g, rfl, _⟩ := sameButDeadPnd_iff.1 h
  obtain ⟨g', rfl, hg'⟩ := sameButDeadPnd_iff.1 h'
  exact ⟨rfl, hg'⟩

/-! ### Instructions -/

theorem exec_answerAlike (i : Instr) {s t : State} (h : SameButDeadPnd s t) :
    AnswerAlike SameButDeadPnd (exec i s) (exec i t) := by
  obtain ⟨g, rfl, hg⟩ := sameButDeadPnd_iff.1 h
  cases i
  case deposit f => exact answerAlike_next (present_sameButDeadPnd f .port h)
  case devWrite c =>
    cases hd : decodeNow c s with
    | error e =>
      rw [exec_devWrite_error hd, exec_devWrite_error (s := { s with pnd := g }) hd]
      exact answerAlike_next ⟨rfl, hg⟩
    | ok f =>
      rw [exec_devWrite_ok hd, exec_devWrite_ok (s := { s with pnd := g }) hd]
      exact answerAlike_next (present_sameButDeadPnd f .write h)
  case frameDecode c =>
    cases hd : decodeNow c s with
    | error e =>
      rw [exec_frameDecode_error hd, exec_frameDecode_error (s := { s with pnd := g }) hd]
      exact answerAlike_next ⟨rfl, hg⟩
    | ok f =>
      rw [exec_frameDecode_ok hd, exec_frameDecode_ok (s := { s with pnd := g }) hd]
      exact answerAlike_next ⟨rfl, hg⟩
  case take =>
    rw [exec_take, exec_take]
    refine answerAlike_next ?_
    split
    · rename_i hr
      obtain rfl := hg hr
      exact sameButDeadPnd_refl _
    · exact ⟨rfl, hg⟩
  case start | stop | check | shiftClkl =>
    simp only [exec_start, exec_stop, exec_check, exec_shiftClkl]
    refine answerAlike_next ?_
    split <;> exact ⟨rfl, hg⟩
  all_goals exact answerAlike_next ⟨rfl, hg⟩

theorem runWord_answerAlike (w : OpWord) {s t : State} (h : SameButDeadPnd s t) :
    AnswerAlike SameButDeadPnd (runWord w s) (runWord w t) := by
  cases hd : decode w with
  | ok i =>
    rw [runWord_ok hd, runWord_ok hd]
    exact exec_answerAlike i (requeue_sameButDeadPnd w h)
  | error e =>
    rw [runWord_error hd, runWord_error hd]
    exact answerAlike_next h

theorem scan_answerAlike {s t : State} (h : SameButDeadPnd s t) : AnswerAlike SameButDeadPnd (scan s) (scan t) := by
  rw [scan_eq, scan_eq, h.ph_eq]
  exact exec_answerAlike _ h

/-! ### A tick and a bring-up -/

theorem microTick_answerAlike {s t : State} (h : SameButDeadPnd s t) :
    AnswerAlike SameButDeadPnd (microTick s) (microTick t) := by
  obtain ⟨g, rfl, hg⟩ := sameButDeadPnd_iff.1 h
  unfold microTick
  dsimp only
  split
  · exact answerAlike_next ⟨rfl, hg⟩
  · exact exec_answerAlike _ h

theorem scanTick_answerAlike (c : Config) {s t : State} (h : SameButDeadPnd s t) :
    AnswerAlike SameButDeadPnd (scanTick c s) (scanTick c t) := by
  have timed (n : Nat) {u v : State} (h : SameButDeadPnd u v) : SameButDeadPnd { u with tmr := n } { v with tmr := n } := by
    obtain ⟨g, rfl, hg⟩ := sameButDeadPnd_iff.1 h
    exact ⟨rfl, hg⟩
  have hm := microTick_answerAlike h
  obtain ⟨g, rfl, hg⟩ := sameButDeadPnd_iff.1 h
  by_cases hp : s.ph = .idle
  · rw [scanTick_idle c hp, scanTick_idle c (by exact hp)]
    exact answerAlike_next ⟨rfl, hg⟩
  cases hd : State.due s with
  | false =>
    rw [scanTick_waiting c hp hd, scanTick_waiting c (by exact hp) (by exact hd)]
    exact answerAlike_next ⟨rfl, hg⟩
  | true =>
    rw [scanTick_due c hp hd, scanTick_due c (by exact hp) (by exact hd)]
    exact answerAlike_andThen hm fun u v huv => answerAlike_next (timed _ huv)

theorem whenPresented_answerAlike (b : Bool) (i : Instr) {s t : State} (h : SameButDeadPnd s t) :
    AnswerAlike SameButDeadPnd (whenPresented b i s) (whenPresented b i t) := by
  cases b with
  | false => exact answerAlike_next h
  | true => exact exec_answerAlike i h

theorem tick_answerAlike (c : Config) (p : Ports) (y : SyncPass) {s t : State} (h : SameButDeadPnd s t) :
    AnswerAlike SameButDeadPnd (tick c p y s) (tick c p y t) := by
  unfold tick
  rw [resetBlock_eq_of_sameButDeadPnd c h, State.depReady, State.depReady, h.rdyP_eq]
  split
  · exact answerAlike_next (sameButDeadPnd_refl _)
  · refine answerAlike_andThen (scanTick_answerAlike c h) fun s1 t1 h1 => ?_
    refine answerAlike_andThen (whenPresented_answerAlike _ _ h1) fun s2 t2 h2 => ?_
    refine answerAlike_andThen (whenPresented_answerAlike _ _ h2) fun s3 t3 h3 => ?_
    refine answerAlike_andThen (whenPresented_answerAlike _ _ h3) fun s4 t4 h4 => ?_
    exact answerAlike_next (settleViews_sameButDeadPnd y h h4)

theorem bringUp_answerAlike (c : Config) (b : BringUp) {s t : State} (h : SameButDeadPnd s t) :
    AnswerAlike SameButDeadPnd (bringUp c b s) (bringUp c b t) := by
  obtain ⟨g, rfl, hg⟩ := sameButDeadPnd_iff.1 h
  unfold bringUp
  simp only [acquireAll_eq]
  split
  · exact answerAlike_next ⟨rfl, hg⟩
  · split
    · refine answerAlike_andThen (exec_answerAlike .start (sameButDeadPnd_refl _)) fun u v huv => ?_
      obtain ⟨g', rfl, hg'⟩ := sameButDeadPnd_iff.1 huv
      exact answerAlike_next ⟨rfl, hg'⟩
    · exact answerAlike_next (sameButDeadPnd_refl _)

/-! ### The step -/

theorem perform_answerAlike (e : Event) {s t : State} (h : SameButDeadPnd s t) :
    AnswerAlike SameButDeadPnd (perform e s) (perform e t) := by
  cases e with
  | scan => exact scan_answerAlike h
  | request x f => exact runWord_answerAlike (.x x f) h
  | call d c => exact runWord_answerAlike (.d d c) h
  | text c => exact runWord_answerAlike (.p c) h
  | resume k => exact answerAlike_next (resumeHeld_sameButDeadPnd k h)
  | withdraw k => exact answerAlike_next (withdrawHeld_sameButDeadPnd k h)
  | reset =>
    rw [perform, perform, resetBlock_eq_of_sameButDeadPnd _ h]
    exact answerAlike_next (sameButDeadPnd_refl _)
  | tick p y => exact tick_answerAlike _ p y h
  | bringUp b => exact bringUp_answerAlike _ b h
  | release => exact answerAlike_next (releaseAtHalt_sameButDeadPnd h)

theorem autonomous_answerAlike {s t : State} (h : SameButDeadPnd s t) :
    AnswerAlike SameButDeadPnd (autonomous s) (autonomous t) := by
  obtain ⟨g, rfl, _⟩ := sameButDeadPnd_iff.1 h
  unfold autonomous
  dsimp only
  split
  · exact scan_answerAlike h
  · split
    · exact scan_answerAlike h
    · exact answerAlike_next (resumeHeld_sameButDeadPnd 0 h)

/-- The step lemma: states alike but for the dead bytes of `PND` step to such states. -/
theorem step_answerAlike {s t : State} (h : SameButDeadPnd s t) : AnswerAlike SameButDeadPnd (step s) (step t) := by
  cases hsc : s.script with
  | nil =>
    rw [step_script_nil hsc, step_script_nil (h.script_eq.trans hsc)]
    exact autonomous_answerAlike h
  | cons e es =>
    rw [step_script_cons hsc, step_script_cons (h.script_eq.trans hsc)]
    obtain ⟨g, rfl, hg⟩ := sameButDeadPnd_iff.1 h
    exact perform_answerAlike e ⟨rfl, hg⟩

/-- Settles O47, by induction on the number of steps: the step lemma keeps the two states alike, and alike states show the
same. -/
theorem deadPendingFrameIsInvisibleInThePinTrace : Obligations.DeadPendingFrameIsInvisibleInThePinTrace := by
  intro n
  induction n with
  | zero => intro s t _; rfl
  | succ n ih =>
    intro s t h
    obtain ⟨s', hs, t', ht, h'⟩ := step_answerAlike h
    simp only [pinTrace, hs, ht]
    rw [observe_eq_of_sameButDeadPnd h', ih s' t' h']

end Sys2Proof.Machine
end

/-! # Proofs for 10_state.md: the slot, its ready flag and the views of the flag (O46, O5, O43, O59) -/

section
/-! Dead bytes of `PND`, in the form of a step from each of two states. -/

namespace Sys2Proof.Machine

/-- Settles O46: a step answers one state only, so the two states answered are those of the step lemma. -/
theorem deadPendingFrameReachesNothing : Obligations.DeadPendingFrameReachesNothing := by
  intro s t s' t' h hs ht
  obtain ⟨u, hu, v, hv, huv⟩ := step_answerAlike h
  obtain rfl : u = s' := Host.Outcome.next.inj (hu.symm.trans hs)
  obtain rfl : v = t' := Host.Outcome.next.inj (hv.symm.trans ht)
  exact huv

end Sys2Proof.Machine
end

section
/-! DEPOSIT and TAKE on an empty and on a full slot, and held calls by name: the call that stands between `before` and
`after` in the list is call number `before.length`. -/

namespace Sys2Proof.Machine

/-- A DEPOSIT on an empty slot sets both views of the flag and holds nobody. -/
theorem exec_deposit_empty (f : Frame) {s : State} (hr : s.rdy = false) :
    exec (.deposit f) s = .next (State.fillSlot f s) := by
  rw [exec_deposit, present_empty f .port hr]
  rfl

theorem exec_deposit_full (f : Frame) {s : State} (hr : s.rdy = true) :
    exec (.deposit f) s = .next { s with held := s.held ++ [{ frame := f, caller := .port }] } := by
  rw [exec_deposit, present_full f .port hr]

theorem exec_take_empty {s : State} (hr : s.rdy = false) : exec .take s = .next (State.goto .advance s) := by
  simp [exec_take, State.slotFull, hr]

theorem exec_take_full {s : State} (hr : s.rdy = true) :
    exec .take s = .next (State.goto .advance (State.drainSlot s)) := by
  simp [exec_take, State.slotFull, hr]

section
variable {s : State} {h : HeldCall} {before after : List HeldCall}

theorem held_getElem?_middle (hs : s.held = before ++ h :: after) : s.held[before.length]? = some h := by simp [hs]

theorem held_eraseIdx_middle (hs : s.held = before ++ h :: after) :
    s.held.eraseIdx before.length = before ++ after := by
  rw [hs, List.eraseIdx_append_of_length_le (Nat.le_refl _), Nat.sub_self, List.eraseIdx_cons_zero]

/-- What a call whose DEPOSIT completes returns: a WRITE 288, the bare port nothing (44_device_interface.md rule R184). -/
theorem answer_results (c : Caller) (s : State) :
    (State.answer c s).results = match c with | .write => .count 288 :: s.results | .port => s.results := by
  cases c <;> rfl

theorem resumeHeld_middle (hs : s.held = before ++ h :: after) (hr : s.rdy = false) :
    State.resumeHeld before.length s = { s with
      held := before ++ after, pnd := h.frame, rdy := true, rdyP := true, rdyS := true,
      results := match h.caller with | .write => .count 288 :: s.results | .port => s.results } := by
  rw [resumeHeld_empty (held_getElem?_middle hs) hr, held_eraseIdx_middle hs, answer_eq, answer_results]
  rfl

theorem withdrawHeld_middle_port (hs : s.held = before ++ h :: after) (hc : h.caller = .port) :
    State.withdrawHeld before.length s = { s with held := before ++ after } := by
  rw [withdrawHeld_port (held_getElem?_middle hs) hc, held_eraseIdx_middle hs]

theorem withdrawHeld_middle_write (hs : s.held = before ++ h :: after) (hc : h.caller = .write) :
    State.withdrawHeld before.length s = s :=
  withdrawHeld_write (held_getElem?_middle hs) hc

end

/-- Settles O5, operation by operation; an event names the held call in the middle of the list. -/
theorem viewsFollowTheFlagAndHeldCallsQueue : Obligations.ViewsFollowTheFlagAndHeldCallsQueue := by
  refine ⟨fun f s => ⟨fun hr => ?_, fun hr => exec_deposit_full f hr, fun hr => ?_⟩, ?_⟩
  · exact ⟨_, exec_deposit_empty f hr, rfl, rfl, rfl⟩
  · exact ⟨_, exec_take_full hr, rfl, rfl⟩
  intro s es h before after hs
  have hes : ({ s with script := es } : State).held = before ++ h :: after := hs
  refine ⟨fun hsc => ?_, fun hsc => ?_⟩
  all_goals rw [step_script_cons hsc, perform]
  · exact ⟨fun hr => congrArg _ (resumeHeld_middle hes hr), fun hr => congrArg _ (resumeHeld_full _ hr)⟩
  · exact ⟨fun hc => congrArg _ (withdrawHeld_middle_port hes hc), fun hc => congrArg _ (withdrawHeld_middle_write hes hc)⟩

end Sys2Proof.Machine
end

section
/-! What one step does to the slot: it leaves it alone, fills it with the Frame `incoming` names, or drains it of the Frame
`outgoing` names (10_state.md rule R16, 20_memory.md rule R53). -/

namespace Sys2Proof.Machine

/-- The slot and `ACT` in two states one after the other, with the Frame that entered and the Frame that left between
them. -/
inductive SlotMove (s t : State) : Option Frame → Option Frame → Prop where
  | keep (act : t.act = s.act) (pnd : t.pnd = s.pnd) (rdy : t.rdy = s.rdy) : SlotMove s t none none
  | fill {f : Frame} (empty : s.rdy = false) (act : t.act = s.act) (pnd : t.pnd = f) (rdy : t.rdy = true) :
      SlotMove s t (some f) none
  | drain (full : s.rdy = true) (act : t.act = s.pnd) (rdy : t.rdy = false) : SlotMove s t none (some s.pnd)

/-- A part that leaves the slot alone may stand before a move. -/
theorem SlotMove.after_keep {s u t : State} {i o : Option Frame} (hk : SlotMove s u none none) (h : SlotMove u t i o) :
    SlotMove s t i o := by
  obtain ⟨ka, kp, kr⟩ := hk
  cases h with
  | keep act pnd rdy => exact .keep (act.trans ka) (pnd.trans kp) (rdy.trans kr)
  | fill empty act pnd rdy => exact .fill (kr.symm.trans empty) (act.trans ka) pnd rdy
  | drain full act rdy => rw [kp]; exact .drain (kr.symm.trans full) (act.trans kp) rdy

/-- A part that leaves the slot alone may stand behind a move. -/
theorem SlotMove.then_keep {s u t : State} {i o : Option Frame} (h : SlotMove s u i o) (hk : SlotMove u t none none) :
    SlotMove s t i o := by
  obtain ⟨ka, kp, kr⟩ := hk
  cases h with
  | keep act pnd rdy => exact .keep (ka.trans act) (kp.trans pnd) (kr.trans rdy)
  | fill empty act pnd rdy => exact .fill empty (ka.trans act) (kp.trans pnd) (kr.trans rdy)
  | drain full act rdy => exact .drain full (ka.trans act) (kr.trans rdy)

/-! ### Operations -/

theorem answer_fillSlot_slotMove (f : Frame) (c : Caller) {s : State} (hr : s.rdy = false) :
    SlotMove s (State.answer c (State.fillSlot f s)) (some f) none := by
  rw [answer_eq]
  exact .fill hr rfl rfl rfl

theorem present_slotMove (f : Frame) (c : Caller) (s : State) :
    SlotMove s (State.present f c s) (if s.rdy then none else some f) none := by
  cases hr : s.rdy with
  | true => rw [present_full f c hr]; exact .keep rfl rfl rfl
  | false => rw [present_empty f c hr]; exact answer_fillSlot_slotMove f c hr

theorem resumeHeld_slotMove (k : Nat) (s : State) :
    SlotMove s (State.resumeHeld k s) (if s.rdy then none else s.held[k]?.map (·.frame)) none := by
  rcases resumeHeld_cases k s with ⟨e, hn⟩ | ⟨h, hk, hr, e⟩
  · have hin : (if s.rdy then none else s.held[k]?.map (·.frame)) = none := by
      rcases hn with hr | hk
      · simp [hr]
      · simp [hk]
    rw [e, hin]
    exact .keep rfl rfl rfl
  · rw [e, hr, hk]
    exact .after_keep (u := { s with held := s.held.eraseIdx k }) (.keep rfl rfl rfl)
      (answer_fillSlot_slotMove h.frame h.caller hr)

/-- An operation of the host or the producer deposits its operand on an empty slot, and takes nothing. -/
theorem exec_external_slotMove {i : Instr} {s t : State} (hi : External i) (h : exec i s = .next t) :
    SlotMove s t (if s.rdy then none else depositOperand i s) none := by
  have kept {f : Option Frame} (hf : f = none) (hk : SlotMove s t none none) :
      SlotMove s t (if s.rdy then none else f) none := by
    rw [hf, ite_self]
    exact hk
  rcases external_cases hi with rfl | rfl | ⟨f, rfl⟩ | rfl | rfl | ⟨c, rfl⟩ | rfl | ⟨c, rfl⟩
  · cases h; exact kept rfl (by split <;> exact .keep rfl rfl rfl)
  · cases h; exact kept rfl (by split <;> exact .keep rfl rfl rfl)
  · cases h; exact present_slotMove f .port s
  · cases h; exact kept rfl (.keep rfl rfl rfl)
  · cases h; exact kept rfl (.keep rfl rfl rfl)
  · cases hd : decodeNow c s with
    | error e =>
      rw [exec_devWrite_error hd] at h
      cases h
      exact kept (by simp [depositOperand, hd, Except.toOption]) (.keep rfl rfl rfl)
    | ok f =>
      rw [exec_devWrite_ok hd] at h
      cases h
      simpa [depositOperand, hd, Except.toOption] using present_slotMove f .write s
  · cases h; exact kept rfl (.keep rfl rfl rfl)
  · cases hd : decodeNow c s with
    | error e => rw [exec_frameDecode_error hd] at h; cases h; exact kept rfl (.keep rfl rfl rfl)
    | ok f => rw [exec_frameDecode_ok hd] at h; cases h; exact kept rfl (.keep rfl rfl rfl)

/-- Of the micro-operations only TAKE moves the slot, and only a full one. -/
theorem exec_microOp_slotMove {p : Phase} {s t : State} (h : exec (microOp p) s = .next t) :
    SlotMove s t none (if p = .take ∧ s.rdy = true then some s.pnd else none) := by
  cases p
  case take =>
    cases hr : s.rdy with
    | true => rw [microOp, exec_take_full hr] at h; cases h; exact .drain hr rfl rfl
    | false => rw [microOp, exec_take_empty hr] at h; cases h; exact .keep rfl rfl rfl
  case check | shiftClkl => cases h; split <;> exact .keep rfl rfl rfl
  all_goals cases h; exact .keep rfl rfl rfl

/-- What an instruction deposits does not depend on the script. -/
theorem depositOperand_script (i : Instr) (s : State) (es : List Event) :
    depositOperand i { s with script := es } = depositOperand i s := by
  cases i <;> rfl

theorem runWord_slotMove {w : OpWord} {s t : State} (hw : ∀ i, decode w = .ok i → External i)
    (h : runWord w s = .next t) : SlotMove s t (if s.rdy then none else frameOffered w s) none := by
  cases hd : decode w with
  | ok i =>
    rw [runWord_ok hd, requeue_eq] at h
    have hm := exec_external_slotMove (hw i hd) h
    rw [depositOperand_script] at hm
    simp only [frameOffered, hd]
    exact .after_keep (u := { s with script := (requeue w s).script }) (.keep rfl rfl rfl) hm
  | error e =>
    rw [runWord_error hd] at h
    cases h
    simp only [frameOffered, hd, ite_self]
    exact .keep rfl rfl rfl

theorem scan_slotMove {s t : State} (h : scan s = .next t) :
    SlotMove s t none (if s.ph = .take ∧ s.rdy = true then some s.pnd else none) := by
  rw [scan_eq] at h
  exact exec_microOp_slotMove h

/-! ### A tick -/

theorem scanTick_slotMove {c : Config} {s t : State} (h : scanTick c s = .next t) : SlotMove s t none
    (if (s.ph == .take && State.due s && s.rdyS) && s.rdy then some s.pnd else none) := by
  rcases scanTick_cases h with ⟨hp, rfl⟩ | ⟨_, hd, ⟨u, hu, rfl⟩, hl⟩ | ⟨_, _, hl, rfl⟩ | ⟨_, hd, rfl⟩
  · simp only [hp]
    exact .keep rfl rfl rfl
  · have hout : (((s.ph == .take && State.due s && s.rdyS) && s.rdy) = true) = (s.ph = .take ∧ s.rdy = true) := by
      simp only [hd, Bool.and_true, Bool.and_eq_true, beq_iff_eq, eq_iff_iff]
      exact ⟨fun ⟨⟨hp, _⟩, hr⟩ => ⟨hp, hr⟩, fun ⟨hp, hr⟩ => ⟨⟨hp, by simpa [hp] using hl⟩, hr⟩⟩
    simp only [hout]
    exact (exec_microOp_slotMove hu).then_keep (.keep rfl rfl rfl)
  · simp only [hl, Bool.and_false, Bool.false_and]
    exact .keep rfl rfl rfl
  · simp only [hd, Bool.and_false, Bool.false_and]
    exact .keep rfl rfl rfl

/-- A request that deposits nothing, START or STOP, leaves the slot alone, presented or not. -/
theorem whenPresented_slotMove {b : Bool} {i : Instr} {s t : State} (hi : External i) (hn : depositOperand i s = none)
    (h : whenPresented b i s = .next t) : SlotMove s t none none := by
  rcases whenPresented_cases h with ⟨_, e⟩ | ⟨_, rfl⟩
  · have hm := exec_external_slotMove hi e
    rwa [hn, ite_self] at hm
  · exact .keep rfl rfl rfl

/-- A tick deposits only where the producer's view, hence the flag itself, is 0 before it; then TAKE finds nothing in it. -/
theorem tick_slotMove {c : Config} {p : Ports} {y : SyncPass} {s t : State} (hv : ViewInv s) (hr : p.rst = false)
    (h : tick c p y s = .next t) : SlotMove s t
      (if !p.xreq.getLsbD 2 || s.rdyP then none else some (unpackFrame p.depFrame))
      (if (s.ph == .take && State.due s && s.rdyS) && s.rdy then some s.pnd else none) := by
  obtain ⟨s1, s2, s3, s4, h1, h2, h3, h4, rfl⟩ := tick_parts hr h
  have m1 := scanTick_slotMove h1
  have m3 : SlotMove s1 s3 none none :=
    (whenPresented_slotMove external_start rfl h2).then_keep (whenPresented_slotMove external_stop rfl h3)
  refine .then_keep (u := s4) ?_ (.keep rfl rfl rfl)
  rcases whenPresented_cases h4 with ⟨hd, e⟩ | ⟨hd, rfl⟩
  · obtain ⟨hx, hP⟩ : p.xreq.getLsbD 2 = true ∧ s.rdyP = false := by simpa using hd
    have hrdy : s.rdy = false := by simpa [hP] using hv.2
    simp only [hx, hP, hrdy, Bool.not_true, Bool.or_self, Bool.and_false, Bool.false_eq_true, if_false] at m1 ⊢
    have m13 := m1.then_keep m3
    have hrdy3 : s3.rdy = false := by
      cases m13 with
      | keep _ _ rdy => exact rdy.trans hrdy
    rw [exec_deposit_empty _ hrdy3] at e
    cases e
    exact .after_keep m13 (answer_fillSlot_slotMove _ .port hrdy3)
  · have hin : (!p.xreq.getLsbD 2 || s.rdyP) = true := by
      rw [← Bool.not_eq_false', ← hd]; simp
    simp only [hin, if_true]
    exact m1.then_keep m3

/-! ### The step -/

/-- With no line of the script left a held call is resumed on an empty slot, else the scanner steps. -/
theorem autonomous_slotMove {s t : State} (h : autonomous s = .next t) : SlotMove s t
    (if s.rdy then none else s.held.head?.map (·.frame))
    (if (s.ph == .take && (s.rdy || s.held.isEmpty)) && s.rdy then some s.pnd else none) := by
  cases hr : s.rdy with
  | true =>
    rw [autonomous_full hr] at h
    simpa [hr] using scan_slotMove h
  | false =>
    cases hh : s.held with
    | nil =>
      rw [autonomous_idle hh] at h
      simpa [hr] using scan_slotMove h
    | cons c cs =>
      rw [autonomous_resume hh hr] at h
      cases h
      simpa [hr, hh] using resumeHeld_slotMove 0 s

theorem step_slotMove {s t : State} (hv : ViewInv s) (h : step s = .next t) (hn : resets s = false) :
    SlotMove s t (incoming s) (outgoing s) := by
  cases hsc : s.script with
  | nil =>
    rw [step_script_nil hsc] at h
    simp only [incoming, outgoing, takesNext, hsc]
    exact autonomous_slotMove h
  | cons e es =>
    rw [step_script_cons hsc] at h
    refine .after_keep (u := { s with script := es }) (.keep rfl rfl rfl) ?_
    simp only [resets, hsc] at hn
    cases e <;> simp only [incoming, outgoing, takesNext, hsc]
    case scan => simpa using scan_slotMove h
    case request x f => exact runWord_slotMove (fun _ => decode_x_external) h
    case call d c => exact runWord_slotMove (fun _ => decode_d_external) h
    case text c =>
      have hm := runWord_slotMove (fun _ => decode_p_external) h
      rwa [show frameOffered (.p c) { s with script := es } = none from rfl, ite_self] at hm
    case resume k => cases h; exact resumeHeld_slotMove k _
    case withdraw k => cases h; rw [withdrawHeld_eq]; exact .keep rfl rfl rfl
    case reset => cases hn
    case tick p y =>
      have hm := tick_slotMove (s := { s with script := es }) hv hn h
      simp only [hn, Bool.false_or, Bool.not_false, Bool.true_and]
      exact hm
    case bringUp b =>
      rcases bringUp_cases Config.hardware b { s with script := es } with ⟨k, _, e⟩ | ⟨hb, _, _⟩ | ⟨hb, _, _⟩
      · rw [perform, e] at h
        cases h
        exact .keep rfl rfl rfl
      · simp [hb] at hn
      · simp [hb] at hn
    case release => cases h; unfold releaseAtHalt; split <;> exact .keep rfl rfl rfl

/-- Settles O43: each of the three moves of the slot meets its clauses. -/
theorem readyFlagMovesOnlyAtDepositAndTake : Obligations.ReadyFlagMovesOnlyAtDepositAndTake := by
  intro s t hv h hn
  have hm := step_slotMove hv h hn
  generalize incoming s = i, outgoing s = o at hm ⊢
  cases hm with
  | keep act pnd rdy => simp [act, pnd, rdy]
  | fill empty act pnd rdy => simp [empty, act, pnd, rdy]
  | drain full act rdy => simp [full, act, rdy]

end Sys2Proof.Machine
end

section
/-! A tick with lagging synchronisers, seen from the scanner's side of the flag (10_state.md rule R28, 20_memory.md rule
R55): the micro-operation, START and STOP commute with the view, and a DEPOSIT shows in it where `RDY_S` rises. -/

namespace Sys2Proof.Machine

/-- The flag and its views are as they were, or all cleared, as TAKE clears them. -/
def FlagsKeptOrCleared (s t : State) : Prop :=
  (t.rdy = s.rdy ∧ t.rdyP = s.rdyP ∧ t.rdyS = s.rdyS) ∨ (t.rdy = false ∧ t.rdyP = false ∧ t.rdyS = false)

theorem flagsKeptOrCleared_trans {s t u : State} (h : FlagsKeptOrCleared s t) (h' : FlagsKeptOrCleared t u) :
    FlagsKeptOrCleared s u := by
  rcases h' with ⟨r', p', v'⟩ | hc
  · rcases h with ⟨r, p, v⟩ | ⟨r, p, v⟩
    · exact .inl ⟨r'.trans r, p'.trans p, v'.trans v⟩
    · exact .inr ⟨r'.trans r, p'.trans p, v'.trans v⟩
  · exact .inr hc

/-- The part of a tick that leads from `s` to `t` is, seen through the scanner's view, the outcome `o`, and raises no
flag. -/
def SeenAs (s t : State) (o : Outcome) : Prop := o = .next (untimedView t) ∧ FlagsKeptOrCleared s t

/-- A step that leaves the flags alone is seen as itself. -/
theorem seenAs_kept {s t : State} {o : Outcome} (ho : o = .next (untimedView t)) (hr : t.rdy = s.rdy)
    (hP : t.rdyP = s.rdyP) (hS : t.rdyS = s.rdyS) : SeenAs s t o := ⟨ho, .inl ⟨hr, hP, hS⟩⟩

/-- A test that reads neither flag nor timer goes the same way on both sides. -/
theorem seenAs_ite {P : Prop} [Decidable P] {s a b a' b' : State} (ha : SeenAs s a (.next a'))
    (hb : SeenAs s b (.next b')) : SeenAs s (if P then a else b) (.next (if P then a' else b')) := by
  by_cases h : P
  · rwa [if_pos h, if_pos h]
  · rwa [if_neg h, if_neg h]

theorem exec_start_seenAs {s t : State} (h : exec .start s = .next t) : SeenAs s t (exec .start (untimedView s)) := by
  cases h
  exact seenAs_ite (P := s.run = .stopped) (seenAs_kept rfl rfl rfl rfl) (seenAs_kept rfl rfl rfl rfl)

theorem exec_stop_seenAs {s t : State} (h : exec .stop s = .next t) : SeenAs s t (exec .stop (untimedView s)) := by
  cases h
  exact seenAs_ite (P := s.run = .running) (seenAs_kept rfl rfl rfl rfl) (seenAs_kept rfl rfl rfl rfl)

/-- TAKE sees the slot as its own view shows it, if that view does not lag. -/
theorem exec_take_seenAs {s t : State} (hS : s.rdyS = s.rdy) (h : exec .take s = .next t) :
    SeenAs s t (exec .take (untimedView s)) := by
  cases hr : s.rdy with
  | true =>
    rw [exec_take_full hr] at h
    cases h
    rw [exec_take_full (s := untimedView s) (hS.trans hr)]
    exact ⟨rfl, .inr ⟨rfl, rfl, rfl⟩⟩
  | false =>
    rw [exec_take_empty hr] at h
    cases h
    rw [exec_take_empty (s := untimedView s) (hS.trans hr)]
    exact seenAs_kept rfl rfl rfl rfl

theorem exec_microOp_seenAs {p : Phase} {s t : State} (hS : p = .take → s.rdyS = s.rdy)
    (h : exec (microOp p) s = .next t) : SeenAs s t (exec (microOp p) (untimedView s)) := by
  cases p
  case take => exact exec_take_seenAs (hS rfl) h
  case check =>
    cases h
    exact seenAs_ite (P := s.run = .stopping) (seenAs_kept rfl rfl rfl rfl) (seenAs_kept rfl rfl rfl rfl)
  case shiftClkl =>
    cases h
    exact seenAs_ite (P := s.bitcnt = lastBit) (seenAs_kept rfl rfl rfl rfl) (seenAs_kept rfl rfl rfl rfl)
  all_goals cases h; exact seenAs_kept rfl rfl rfl rfl

/-- The scanner's part of a tick: a TAKE whose view lags goes on to ADVANCE, as TAKE of an empty slot does. -/
theorem scanTick_seenAs {c : Config} {s t : State} (hv : ViewInv s) (h : scanTick c s = .next t) : SeenAs s t
    (if s.ph ≠ .idle ∧ State.due s = true then scan (untimedView s) else .next (untimedView s)) := by
  rcases scanTick_cases h with ⟨hp, rfl⟩ | ⟨hp, hd, ⟨u, hu, rfl⟩, hl⟩ | ⟨hp, hd, hS, rfl⟩ | ⟨_, hd, rfl⟩
  · rw [if_neg (by simp [hp])]
    exact seenAs_kept rfl rfl rfl rfl
  · have hS (ht : s.ph = .take) : s.rdyS = s.rdy := by
      have hs : s.rdyS = true := by simpa [ht] using hl
      rw [hs, hv.1 hs]
    rw [if_pos ⟨hp, hd⟩, scan_eq]
    obtain ⟨e, f⟩ := exec_microOp_seenAs hS hu
    exact ⟨e, f⟩
  · rw [if_pos ⟨by simp [hp], hd⟩, scan_eq, show (untimedView s).ph = .take from hp, microOp,
      exec_take_empty (s := untimedView s) hS]
    exact seenAs_kept rfl rfl rfl rfl
  · rw [if_neg (by simp [hd])]
    exact seenAs_kept rfl rfl rfl rfl

theorem whenPresented_seenAs {b : Bool} {i : Instr} {s t : State}
    (hi : ∀ u, exec i s = .next u → SeenAs s u (exec i (untimedView s))) (h : whenPresented b i s = .next t) :
    SeenAs s t (if b then exec i (untimedView s) else .next (untimedView s)) := by
  rcases whenPresented_cases h with ⟨rfl, e⟩ | ⟨rfl, rfl⟩
  · exact hi t e
  · exact seenAs_kept rfl rfl rfl rfl

/-- `t` is `s` but for `PND`, the flag and its views. -/
def SameButSlot (s t : State) : Prop := t = { s with pnd := t.pnd, rdy := t.rdy, rdyP := t.rdyP, rdyS := t.rdyS }

/-- The DEPOSIT of a tick and the synchronisers after it change the slot's own fields only; and a Frame the scanner sees
before them it sees after them, unchanged. -/
theorem depositAndSettle_slot {b : Bool} {f : Frame} {y : SyncPass} {s s3 s4 : State} (hv : ViewInv s)
    (hf : FlagsKeptOrCleared s s3)
    (h : whenPresented (b && s.depReady) (.deposit f) s3 = .next s4) :
    SameButSlot s3 (State.settleViews y s s4) ∧
      (s3.rdyS = true → (State.settleViews y s s4).rdyS = true ∧ (State.settleViews y s s4).pnd = s3.pnd) := by
  rcases whenPresented_cases h with ⟨hd, e⟩ | ⟨_, rfl⟩
  · obtain ⟨_, hP⟩ : b = true ∧ s.rdyP = false := by simpa using hd
    have hr : s.rdy = false := by simpa [hP] using hv.2
    have hS : s.rdyS = false := by simpa [hr] using hv.1
    obtain ⟨hr3, hS3⟩ : s3.rdy = false ∧ s3.rdyS = false := by
      rcases hf with ⟨r, _, v⟩ | ⟨r, _, v⟩
      · exact ⟨r.trans hr, v.trans hS⟩
      · exact ⟨r, v⟩
    rw [exec_deposit_empty f hr3] at e
    cases e
    exact ⟨rfl, fun h => by rw [hS3] at h; cases h⟩
  · refine ⟨rfl, fun hS3 => ⟨?_, rfl⟩⟩
    rcases hf with ⟨r, _, v⟩ | ⟨_, _, v⟩
    · have hS : s.rdyS = true := v.symm.trans hS3
      simp [State.settleViews, r, hS, hv.1 hS]
    · rw [v] at hS3; cases hS3

/-- Where the scanner's view of the flag rises, the untimed DEPOSIT of the Frame that is then in `PND` is what happened;
where it does not rise, nothing the scanner can see. -/
theorem deposit_where_view_rises {s t : State} (hs : SameButSlot s t)
    (hS : s.rdyS = true → t.rdyS = true ∧ t.pnd = s.pnd) : ∃ u : State,
      (if (untimedView s).rdy = false ∧ t.rdyS = true then exec (.deposit t.pnd) (untimedView s)
        else .next (untimedView s)) = .next u ∧ SameButDeadPnd u (untimedView t) := by
  have view_eq : untimedView t = { untimedView s with pnd := t.pnd, rdy := t.rdyS, rdyP := t.rdyS, rdyS := t.rdyS } := by
    rw [hs]; rfl
  rw [view_eq]
  cases h3 : s.rdyS with
  | true =>
    obtain ⟨ht, hp⟩ := hS h3
    rw [if_neg (by simp [untimedView, h3])]
    refine ⟨_, rfl, ?_⟩
    rw [ht, hp, ← h3]
    exact sameButDeadPnd_refl _
  | false =>
    cases ht : t.rdyS with
    | true =>
      rw [if_pos ⟨h3, rfl⟩, exec_deposit_empty (s := untimedView s) _ h3]
      exact ⟨_, rfl, sameButDeadPnd_refl _⟩
    | false =>
      rw [if_neg (by simp)]
      refine ⟨_, rfl, ?_, fun h => ?_⟩
      · rw [← h3]; rfl
      · rw [show (untimedView s).rdy = false from h3] at h; cases h

/-- Settles O59: the parts of the tick one after another, each seen through the scanner's view. -/
theorem laggingTickRefinesTheUntimedSteps : Obligations.LaggingTickRefinesTheUntimedSteps := by
  intro c p y s t hv hr h
  obtain ⟨s1, s2, s3, s4, h1, h2, h3, h4, rfl⟩ := tick_parts hr h
  obtain ⟨e1, f1⟩ := scanTick_seenAs hv h1
  obtain ⟨e2, f2⟩ := whenPresented_seenAs (fun _ => exec_start_seenAs) h2
  obtain ⟨e3, f3⟩ := whenPresented_seenAs (fun _ => exec_stop_seenAs) h3
  obtain ⟨hslot, hseen⟩ :=
    depositAndSettle_slot (y := y) hv (flagsKeptOrCleared_trans f1 (flagsKeptOrCleared_trans f2 f3)) h4
  obtain ⟨u, hu, hsame⟩ := deposit_where_view_rises hslot hseen
  refine ⟨u, ?_, hsame⟩
  simp only [e1, andThen_next, e2, e3]
  exact hu

end Sys2Proof.Machine
end

/-! # Proofs for 20_memory.md: the hand-off (O44), the scanner's frame (O34), a held DEPOSIT (O48), the step (O32) -/

section
/-! The views of the ready flag (10_state.md rule R28) under every step. -/

namespace Sys2Proof.Machine

theorem viewInv_of_oneClock {s : State} (h : OneClock s) : ViewInv s :=
  ⟨fun hS => h.2 ▸ hS, fun hr => h.1.trans hr⟩

theorem answer_fillSlot_oneClock (f : Frame) (c : Caller) (s : State) :
    OneClock (State.answer c (State.fillSlot f s)) := by
  rw [answer_eq]
  exact ⟨rfl, rfl⟩

theorem present_keeps_viewInv (f : Frame) (c : Caller) {s : State} (hv : ViewInv s) : ViewInv (State.present f c s) := by
  cases hr : s.rdy with
  | true => rw [present_full f c hr]; exact hv
  | false => rw [present_empty f c hr]; exact viewInv_of_oneClock (answer_fillSlot_oneClock f c s)

theorem resumeHeld_keeps_viewInv (k : Nat) {s : State} (hv : ViewInv s) : ViewInv (State.resumeHeld k s) := by
  rcases resumeHeld_cases k s with ⟨e, _⟩ | ⟨h, _, _, e⟩ <;> rw [e]
  · exact hv
  · exact viewInv_of_oneClock (answer_fillSlot_oneClock _ _ _)

/-- An instruction that moves the flag moves both views with it. -/
theorem exec_keeps_viewInv {i : Instr} {s t : State} (hv : ViewInv s) (h : exec i s = .next t) : ViewInv t := by
  cases i
  case deposit f => cases h; exact present_keeps_viewInv f .port hv
  case devWrite c =>
    cases hd : decodeNow c s with
    | error e => rw [exec_devWrite_error hd] at h; cases h; exact hv
    | ok f => rw [exec_devWrite_ok hd] at h; cases h; exact present_keeps_viewInv f .write hv
  case frameDecode c =>
    cases hd : decodeNow c s with
    | error e => rw [exec_frameDecode_error hd] at h; cases h; exact hv
    | ok f => rw [exec_frameDecode_ok hd] at h; cases h; exact hv
  case take =>
    cases hr : s.rdy with
    | true => rw [exec_take_full hr] at h; cases h; exact viewInv_of_oneClock ⟨rfl, rfl⟩
    | false => rw [exec_take_empty hr] at h; cases h; exact hv
  case start | stop | check | shiftClkl => cases h; split <;> exact hv
  all_goals cases h; exact hv

/-- Whether a synchroniser passes or not, its view errs on the safe side of the flag as it is after the tick. -/
theorem settleViews_viewInv (y : SyncPass) (s t : State) : ViewInv (State.settleViews y s t) := by
  constructor
  · show (if y.toScanner then t.rdy else s.rdyS && t.rdy) = true → t.rdy = true
    cases y.toScanner <;> simp
  · show t.rdy = true → (if y.toProducer then t.rdy else s.rdyP || t.rdy) = true
    cases y.toProducer <;> simp +contextual

theorem tick_keeps_viewInv {c : Config} {p : Ports} {y : SyncPass} {s t : State} (hv : ViewInv s)
    (h : tick c p y s = .next t) : ViewInv t :=
  tick_keeps ViewInv hv h
    (reset := fun _ _ => viewInv_of_oneClock ⟨rfl, rfl⟩)
    (timer := fun _ _ hv => hv)
    (micro := fun _ _ hv e => exec_keeps_viewInv hv e)
    (emptyTake := fun _ hv _ => hv)
    (external := fun _ _ _ _ hv e => exec_keeps_viewInv hv e)
    (settle := fun y s t _ _ => settleViews_viewInv y s t)

theorem step_keeps_viewInv {s t : State} (hv : ViewInv s) (h : step s = .next t) : ViewInv t :=
  step_keeps ViewInv hv h
    (script := fun _ _ hv => hv)
    (micro := fun _ _ hv e => exec_keeps_viewInv hv e)
    (external := fun _ _ _ _ hv e => exec_keeps_viewInv hv e)
    (resume := fun k _ hv => resumeHeld_keeps_viewInv k hv)
    (withdraw := fun k s hv => by rw [withdrawHeld_eq]; exact hv)
    (reset := fun _ _ => viewInv_of_oneClock ⟨rfl, rfl⟩)
    (ticked := fun _ _ _ _ hv e => tick_keeps_viewInv hv e)
    (broughtUp := fun _ _ _ hv e => bringUp_keeps ViewInv hv e
      (reset := fun _ _ => viewInv_of_oneClock ⟨rfl, rfl⟩)
      (started := fun _ _ => viewInv_of_oneClock ⟨rfl, rfl⟩)
      (host := fun _ _ _ _ hv => hv))
    (release := fun s hv => by unfold releaseAtHalt; split <;> exact hv)

theorem delivers_keeps_viewInv {s t : State} {ins outs : List Frame} (hv : ViewInv s) (h : Delivers s ins outs t) :
    ViewInv t := by
  induction h with
  | start => exact hv
  | more _ _ hstep ih => exact step_keeps_viewInv ih hstep

end Sys2Proof.Machine
end

section
/-! The hand-off (20_memory.md rules R54, R56): the Frame waiting and the Frame coming in are, in order, the Frame going out
and the Frame waiting then; a run adds its steps up. -/

namespace Sys2Proof.Machine

theorem waiting_full {s : State} (h : s.rdy = true) : waiting s = [s.pnd] := by simp [waiting, h]
theorem waiting_empty {s : State} (h : s.rdy = false) : waiting s = [] := by simp [waiting, h]

/-- No move of the slot loses, repeats or reorders a Frame. -/
theorem SlotMove.waiting_append {s t : State} {i o : Option Frame} (h : SlotMove s t i o) :
    waiting s ++ i.toList = o.toList ++ waiting t := by
  cases h with
  | keep act pnd rdy => simp [waiting, pnd, rdy]
  | fill empty act pnd rdy => simp [waiting_empty empty, waiting_full rdy, pnd]
  | drain full act rdy => simp [waiting_full full, waiting_empty rdy]

/-- `ACT` is the Frame that left the slot, or what it was. -/
theorem SlotMove.act_eq {s t : State} {i o : Option Frame} (h : SlotMove s t i o) : t.act = o.getD s.act := by
  cases h with
  | keep act pnd rdy => exact act
  | fill empty act pnd rdy => exact act
  | drain full act rdy => exact act

/-- The last Frame of a list with one more step's Frame behind it. -/
theorem getLast?_append_toList_getD (outs : List Frame) (o : Option Frame) (a : Frame) :
    (outs ++ o.toList).getLast?.getD a = o.getD (outs.getLast?.getD a) := by
  cases o <;> simp

/-- Settles O44, by induction on the run: each step is a move of the slot. -/
theorem handOffIsExactlyOnceAndInOrder : Obligations.HandOffIsExactlyOnceAndInOrder := by
  intro s t ins outs hv h
  induction h with
  | start => simp
  | @more t u ins outs hrun hreset hstep ih =>
    have hm := step_slotMove (delivers_keeps_viewInv hv hrun) hstep hreset
    obtain ⟨hwait, hact⟩ := ih
    constructor
    · calc waiting s ++ (ins ++ (incoming t).toList)
          = outs ++ (waiting t ++ (incoming t).toList) := by rw [← List.append_assoc, hwait, List.append_assoc]
        _ = outs ++ (outgoing t).toList ++ waiting u := by rw [hm.waiting_append, List.append_assoc]
    · rw [hm.act_eq, hact, getLast?_append_toList_getD]

end Sys2Proof.Machine
end

section
/-! The word that the next step fetches is the word it runs (20_memory.md rule R52, 10_state.md rule R20). -/

namespace Sys2Proof.Machine

theorem popped_nil {s : State} (h : s.script = []) : popped s = s := by
  cases s; cases h; rfl

theorem popped_cons {s : State} {e : Event} {es : List Event} (h : s.script = e :: es) :
    popped s = { s with script := es } := by
  simp [popped, h]

/-- With no line of the script left, what is fetched is the scanner's word, and only where it is the scanner's turn. -/
theorem autonomous_of_fetch {s : State} {w : OpWord} (hs : s.script = []) (h : fetch s = some w) :
    w = scanWord s ∧ autonomous s = scan s := by
  rw [fetch, hs] at h
  cases hh : s.held with
  | nil =>
    simp only [hh, Option.some.injEq] at h
    exact ⟨h.symm, autonomous_idle hh⟩
  | cons c cs =>
    cases hr : s.rdy with
    | true =>
      simp only [hh, hr, if_true, Option.some.injEq] at h
      exact ⟨h.symm, autonomous_full hr⟩
    | false => simp [hh, hr] at h

/-- A line of the script from which a word is fetched is performed by running that word. -/
theorem perform_of_fetch {s : State} {w : OpWord} {e : Event} {es : List Event} (hs : s.script = e :: es)
    (h : fetch s = some w) : perform e { s with script := es } = runWord w { s with script := es } := by
  simp only [fetch, hs] at h
  cases e
  case scan | request | call | text => cases h; rfl
  case resume | withdraw | reset | tick | bringUp | release => cases h

theorem step_of_fetch {s : State} {w : OpWord} (h : fetch s = some w) : step s = runWord w (popped s) := by
  cases hs : s.script with
  | nil =>
    obtain ⟨rfl, ha⟩ := autonomous_of_fetch hs h
    rw [step_script_nil hs, popped_nil hs, ha, scan]
  | cons e es => rw [step_script_cons hs, popped_cons hs, perform_of_fetch hs h]

/-- Settles O32: the word fetched is the word run, whoever's turn it is. -/
theorem stepRunsTheDecodedInstruction : Obligations.StepRunsTheDecodedInstruction := by
  intro s w i hf hd
  rw [step_of_fetch hf, runWord_ok hd]

end Sys2Proof.Machine
end

section
/-! The frame of the scanner's micro-operations other than TAKE (43_row_scan_driver.md rule R148, 42_row_serializer.md rule
R130). -/

namespace Sys2Proof.Machine

/-- `t` is `s` but for what the scanner owns beside `ACT`: the row, the run state, the sequencer and the pins. -/
def SameButScanner (s t : State) : Prop :=
  t = { s with row := t.row, run := t.run, ph := t.ph, bitcnt := t.bitcnt, data := t.data, clk := t.clk, a := t.a,
               latch := t.latch, blank := t.blank }

theorem sameButScanner_refl (s : State) : SameButScanner s s := rfl

theorem SameButScanner.pnd_eq {s t : State} (h : SameButScanner s t) : t.pnd = s.pnd := by rw [h]
theorem SameButScanner.rdy_eq {s t : State} (h : SameButScanner s t) : t.rdy = s.rdy := by rw [h]
theorem SameButScanner.results_eq {s t : State} (h : SameButScanner s t) : t.results = s.results := by rw [h]
theorem SameButScanner.held_eq {s t : State} (h : SameButScanner s t) : t.held = s.held := by rw [h]
theorem SameButScanner.script_eq {s t : State} (h : SameButScanner s t) : t.script = s.script := by rw [h]

theorem SameButScanner.trans {s t u : State} (h : SameButScanner s t) (h' : SameButScanner t u) : SameButScanner s u := by
  unfold SameButScanner at h' ⊢
  rw [h] at h'
  exact h'

/-- Of the micro-operations only TAKE reaches past the scanner's own state. -/
theorem exec_microOp_sameButScanner {p : Phase} {s t : State} (hp : p ≠ .take) (h : exec (microOp p) s = .next t) :
    SameButScanner s t := by
  cases p
  case take => exact absurd rfl hp
  case check | shiftClkl => cases h; split <;> rfl
  all_goals cases h; rfl

/-- Settles O34: each piece of state named is none of the scanner's own. -/
theorem scanningLeavesTheFrameStoresAlone : Obligations.ScanningLeavesTheFrameStoresAlone := by
  intro p s t hp h
  rw [exec_microOp_sameButScanner hp h]
  exact ⟨fun _ _ => ⟨rfl, rfl⟩, rfl, rfl, rfl, rfl, rfl, rfl, rfl, rfl, rfl⟩

end Sys2Proof.Machine
end

section
/-! A held DEPOSIT under a running scanner (20_memory.md rule R59): with the slot full and no script left every step is the
scanner's, each brings it one position nearer to TAKE (43_row_scan_driver.md rule R148), and after TAKE the first held call
takes its turn. -/

namespace Sys2Proof.Machine

/-- Micro-operations that a running scanner executes before it reaches TAKE. -/
def stepsToTake (s : State) : Nat :=
  match s.ph with
  | .idle => 0
  | .take => 0
  | .check => 1
  | .dwell => 2
  | .blankOff => 3
  | .latchOff => 4
  | .latchOn => 5
  | .select => 6
  | .blankOn => 7
  | .shiftClkl => 8 + 3 * (143 - s.bitcnt.toNat)
  | .shiftClkh => 9 + 3 * (143 - s.bitcnt.toNat)
  | .shiftData => 10 + 3 * (143 - s.bitcnt.toNat)
  | .advance => 440

/-- A whole scan cycle but TAKE itself: ADVANCE, the serializer's 432 positions, seven more. -/
theorem stepsToTake_le (s : State) : stepsToTake s ≤ 440 := by
  unfold stepsToTake
  split <;> omega

theorem stepsToTake_eq_zero {s : State} (hp : s.ph ≠ .idle) : stepsToTake s = 0 ↔ s.ph = .take := by
  cases h : s.ph
  case idle => exact absurd h hp
  all_goals simp [stepsToTake, h]

/-- The scanner runs its cycle: it is Running, not held in IDLE, and its bit counter names a cell (70 R250, R251). -/
structure Cycling (s : State) : Prop where
  run : s.run = .running
  ph : s.ph ≠ .idle
  bitcnt : s.bitcnt.toNat < 144

theorem cycling_of_blockInv {s : State} (hi : BlockInv s) (hr : s.run = .running) : Cycling s := by
  obtain ⟨⟨hbit, _⟩, hidle, _⟩ := hi
  exact ⟨hr, fun hp => by simpa [hr] using hidle.1 hp, hbit⟩

/-- Each micro-operation before TAKE brings a running scanner one position nearer to it. -/
theorem exec_microOp_towards_take {s t : State} (hc : Cycling s) (ht : s.ph ≠ .take)
    (h : exec (microOp s.ph) s = .next t) : Cycling t ∧ stepsToTake s = stepsToTake t + 1 := by
  obtain ⟨hrun, hidle, hbit⟩ := hc
  cases hp : s.ph <;> rw [hp, microOp] at h
  case idle => exact absurd hp hidle
  case take => exact absurd hp ht
  case check =>
    rw [exec_check, if_neg (by simp [hrun])] at h
    cases h
    exact ⟨⟨hrun, by simp, hbit⟩, by simp [stepsToTake, hp]⟩
  case shiftData | shiftClkh =>
    cases h
    refine ⟨⟨hrun, by simp, hbit⟩, ?_⟩
    simp only [stepsToTake, hp, State.goto_ph, State.goto_bitcnt, State.driveData_bitcnt, State.driveClk_bitcnt]
    omega
  case advance => cases h; exact ⟨⟨hrun, by simp, by simp⟩, by simp [stepsToTake, hp]⟩
  case shiftClkl =>
    rw [exec_shiftClkl] at h
    by_cases hl : s.bitcnt = lastBit
    · rw [if_pos hl] at h
      cases h
      exact ⟨⟨hrun, by simp, by simp⟩, by simp [stepsToTake, hp, hl, lastBit]⟩
    · have hlt : s.bitcnt.toNat < 143 := by
        have : s.bitcnt.toNat ≠ 143 := fun e => hl (BitVec.eq_of_toNat_eq e)
        omega
      have hnext : (s.bitcnt + 1).toNat = s.bitcnt.toNat + 1 := by bv_omega
      rw [if_neg hl] at h
      cases h
      refine ⟨⟨hrun, by simp, ?_⟩, ?_⟩
      · simp only [State.goto_bitcnt, State.setBitcnt_bitcnt, hnext]; omega
      · simp only [stepsToTake, hp, State.goto_ph, State.goto_bitcnt, State.setBitcnt_bitcnt, hnext]; omega
  all_goals
    cases h
    exact ⟨⟨hrun, by simp, hbit⟩, by simp [stepsToTake, hp]⟩

/-- With no script left and the slot full it is the scanner's turn, whoever waits (log entry 9). -/
theorem step_full {s : State} (hs : s.script = []) (hr : s.rdy = true) : step s = exec (microOp s.ph) s := by
  rw [step_script_nil hs, autonomous_full hr, scan_eq]

theorem core_run_succ {s t : State} (k : Nat) (h : step s = .next t) :
    Host.Core.run Sys2Proof.core (k + 1) s = Host.Core.run Sys2Proof.core k t := by
  simp only [Host.Core.run, show Sys2Proof.core.step s = .next t from h]

theorem core_run_add {k : Nat} {s t : State} (m : Nat) (h : Host.Core.run Sys2Proof.core k s = .next t) :
    Host.Core.run Sys2Proof.core (k + m) s = Host.Core.run Sys2Proof.core m t := by
  induction k generalizing s with
  | zero => cases h; rw [Nat.zero_add]
  | succ k ih =>
    obtain ⟨u, hu, _⟩ := step_atMostOneMore s
    rw [core_run_succ k hu] at h
    rw [Nat.succ_add, core_run_succ _ hu, ih h]

/-- A running scanner reaches TAKE with the Frame that waits, and with nothing done but the scanner's own work. -/
theorem run_reaches_take {s : State} (hc : Cycling s) (hs : s.script = []) (hr : s.rdy = true) :
    ∃ t : State, Host.Core.run Sys2Proof.core (stepsToTake s) s = .next t ∧ t.ph = .take ∧ SameButScanner s t := by
  induction hn : stepsToTake s generalizing s with
  | zero =>
    exact ⟨s, rfl, (stepsToTake_eq_zero hc.ph).1 hn, sameButScanner_refl s⟩
  | succ n ih =>
    have ht : s.ph ≠ .take := fun ht => by simp [(stepsToTake_eq_zero hc.ph).2 ht] at hn
    obtain ⟨u, hu⟩ := exec_answers (microOp s.ph) s
    obtain ⟨hcu, hless⟩ := exec_microOp_towards_take hc ht hu
    have hsu := exec_microOp_sameButScanner ht hu
    obtain ⟨t, hrun, htake, hut⟩ := ih hcu (hsu.script_eq.trans hs) (hsu.rdy_eq.trans hr) (by omega)
    exact ⟨t, by rw [core_run_succ n ((step_full hs hr).trans hu), hrun], htake, hsu.trans hut⟩

/-- TAKE empties the slot; then the first held call fills it again and its caller is answered (44 R184). -/
theorem run_take_then_resume {s : State} {h : HeldCall} {hs : List HeldCall} (hp : s.ph = .take) (hsc : s.script = [])
    (hr : s.rdy = true) (hh : s.held = h :: hs) : Host.Core.run Sys2Proof.core 2 s = .next { s with
      act := s.pnd, ph := .advance, held := hs, pnd := h.frame, rdy := true, rdyP := true, rdyS := true,
      results := match h.caller with | .write => .count 288 :: s.results | .port => s.results } := by
  have htake : step s = .next (State.goto .advance (State.drainSlot s)) := by
    rw [step_full hsc hr, hp, microOp, exec_take_full hr]
  have hresume : step (State.goto .advance (State.drainSlot s)) =
      .next (State.resumeHeld 0 (State.goto .advance (State.drainSlot s))) := by
    rw [step_script_nil (by exact hsc), autonomous_resume (by exact hh) rfl]
  rw [core_run_succ 1 htake, core_run_succ 0 hresume]
  exact congrArg Host.Outcome.next (resumeHeld_middle (before := []) (by exact hh) rfl)

/-- Settles O48: the way to TAKE, TAKE, and the held call's own step. -/
theorem heldDepositCompletesUnderARunningScanner : Obligations.HeldDepositCompletesUnderARunningScanner := by
  intro s h hs hi hrun hsc hh hr
  obtain ⟨t, ht, htake, hst⟩ := run_reaches_take (cycling_of_blockInv hi hrun) hsc hr
  have hlast := run_take_then_resume htake (hst.script_eq.trans hsc) (hst.rdy_eq.trans hr) (hst.held_eq.trans hh)
  refine ⟨stepsToTake s + 2, _, Nat.add_le_add_right (stepsToTake_le s) 2, (core_run_add 2 ht).trans hlast,
    rfl, rfl, rfl, hst.pnd_eq, ?_, ?_⟩
  all_goals intro hc; simp only [hc, hst.results_eq]

end Sys2Proof.Machine
end

/-! # Proofs for 30_encoding.md: words and their operations (O28, O29), the Frame word (O30), the row-select code (O12), hex
characters (O22), requests presented together (O31) -/

section
/-! The Frame word (30_encoding.md rule R73): the byte at offset `off` stands in bits `8*off+7 : 8*off`, so that cutting the
word into bytes gives the Frame back. -/

namespace Sys2Proof.Machine

/-- In a number written in base 256, least significant digit first, bit `8*k + i` is bit `i` of digit `k`. -/
theorem testBit_foldr_bytes (l : List Byte) (k : Nat) {i : Nat} (hi : i < 8) :
    (l.foldr (fun (v : Byte) (acc : Nat) => acc * 256 + v.toNat) 0).testBit (8 * k + i) = (l.getD k 0).getLsbD i := by
  induction l generalizing k with
  | nil => simp
  | cons v vs ih =>
    have hsplit := Nat.testBit_two_pow_mul_add (vs.foldr (fun (v : Byte) acc => acc * 256 + v.toNat) 0) v.isLt (8 * k + i)
    rw [Nat.mul_comm] at hsplit
    rw [List.foldr_cons, hsplit]
    cases k with
    | zero => simp [hi, BitVec.getLsbD]
    | succ k =>
      rw [if_neg (by omega), show 8 * (k + 1) + i - 8 = 8 * k + i by omega, ih, List.getD_cons_succ]

/-- The Frame word is the number whose base-256 digits are the Frame's bytes in row-major order. -/
theorem packFrame_getLsbD (f : Frame) (r : Fin 8) (b : Fin 18) {i : Nat} (hi : i < 8) :
    (packFrame f).getLsbD (8 * (18 * r.val + b.val) + i) = (byteOf f r b).getLsbD i := by
  have hbit : 8 * (18 * r.val + b.val) + i < 1152 := by omega
  rw [packFrame, BitVec.getLsbD_ofNat, testBit_foldr_bytes _ _ hi, List.getD_eq_getElem?_getD, frameBytesOf_getElem?]
  simp [hbit]

/-- Settles O30: bit `i` of the digit at offset `18*r + b`. -/
theorem frameWordHoldsByteOffInItsEightBits : Obligations.FrameWordHoldsByteOffInItsEightBits :=
  fun f r b i => packFrame_getLsbD f r b i.isLt

theorem unpackFrame_packFrame (f : Frame) : unpackFrame (packFrame f) = f := by
  apply frame_ext
  intro r b
  rw [unpackFrame, byteOf_ofFn]
  apply BitVec.eq_of_getLsbD_eq
  intro i hi
  rw [BitVec.getLsbD_extractLsb', packFrame_getLsbD f r b hi]
  simp [hi]

end Sys2Proof.Machine
end

section
/-! Encoded words and operations (30_encoding.md rules R84 to R88, R91). -/

namespace Sys2Proof.Machine

/-- DEPOSIT's request bit (R85) with a Frame word. -/
theorem decode_deposit (w : BitVec 1152) : decode (.x 4 w) = .ok (.deposit (unpackFrame w)) := rfl

/-- Every word but DEPOSIT's holds its operand, if any, as it is; DEPOSIT's holds the packed Frame. -/
theorem decode_encode (i : Instr) : decode (encode i) = .ok i := by
  cases i
  case deposit f => rw [encode, decode_deposit, unpackFrame_packFrame]
  all_goals rfl

theorem encode_wf (i : Instr) : (encode i).wf = true := by cases i <;> rfl

/-- Settles O28: the decoder reads the tables that the encoder writes, and `unpackFrame` undoes `packFrame`. -/
theorem decodeReadsBackEveryEncodedOperation : Obligations.DecodeReadsBackEveryEncodedOperation :=
  fun i _ => ⟨decode_encode i, encode_wf i⟩

/-- The position a code names has that code. -/
theorem positionCode_of_positionOf {code : BitVec 4} {p : Phase} (h : positionOf code = some p) :
    positionCode p = code := by
  unfold positionOf at h
  split at h <;> cases h <;> exact BitVec.eq_of_toNat_eq (Eq.symm ‹_›)

/-- Exactly 13, 14 and 15 are reserved (30_encoding.md rule R91). -/
theorem positionOf_eq_none_iff (code : BitVec 4) : positionOf code = none ↔ 13 ≤ code.toNat := by
  revert code
  decide

/-- Settles O29: the codes are the tables' by computation; the positions and their codes correspond one to one. -/
theorem wordsOfTheTablesNameTheirOperations : Obligations.WordsOfTheTablesNameTheirOperations := by
  refine ⟨fun w => ⟨rfl, rfl, decode_deposit w, rfl⟩, ?positions, fun c => ⟨rfl, rfl, rfl, rfl⟩, positionOf_positionCode,
    fun code => ⟨positionOf_eq_none_iff code, fun p => positionCode_of_positionOf⟩, fun s => rfl, ⟨rfl, rfl, rfl, rfl⟩,
    rfl, fun k => rfl, rfl, rfl⟩
  case positions => exact ⟨rfl, rfl, rfl, rfl, rfl, rfl, rfl, rfl, rfl, rfl, rfl, rfl, rfl⟩

end Sys2Proof.Machine
end

section
/-! The row-select code (30_encoding.md rule R76). -/

namespace Sys2Proof.Machine

/-- Bit `i` of a word is 1 exactly where its number, divided by `2^i`, is odd. -/
theorem getLsbD_iff_div_odd {n : Nat} (x : BitVec n) (i : Nat) : x.getLsbD i = true ↔ x.toNat / 2 ^ i % 2 = 1 := by
  rw [BitVec.getLsbD, Nat.testBit_eq_decide_div_mod_eq, decide_eq_true_iff]

/-- Settles O12: SELECT drives the Row Index itself. -/
theorem selectDrivesTheBinaryRowCode : Obligations.SelectDrivesTheBinaryRowCode := by
  intro s
  refine ⟨{ s with a := s.row, ph := .latchOn }, exec_select s, rfl, rfl, ?a0, ?a1, ?a2⟩
  case a0 => simpa using getLsbD_iff_div_odd s.row 0
  case a1 => exact getLsbD_iff_div_odd s.row 1
  case a2 =>
    have hrow : s.row.toNat < 8 := s.row.isLt
    have hbit : s.row.getLsbD 2 = true ↔ s.row.toNat / 4 % 2 = 1 := getLsbD_iff_div_odd s.row 2
    exact hbit.trans (by omega)

end Sys2Proof.Machine
end

section
/-! Hex characters and nibble pairs (30_encoding.md rules R71, R72). -/

namespace Sys2Proof.Machine

theorem hexval_decimal {c : Byte} {d : Nat} (hd : d < 10) (hc : c.toNat = 0x30 + d) :
    hexval c = some (BitVec.ofNat 4 d) := by
  simp only [hexval]
  rw [if_pos (by omega), show c.toNat - 0x30 = d by omega]

theorem hexval_upper {c : Byte} {d : Nat} (hd : d < 6) (hc : c.toNat = 0x41 + d) :
    hexval c = some (BitVec.ofNat 4 (10 + d)) := by
  simp only [hexval]
  rw [if_neg (by omega), if_pos (by omega), show c.toNat - 0x41 + 10 = 10 + d by omega]

theorem hexval_lower {c : Byte} {d : Nat} (hd : d < 6) (hc : c.toNat = 0x61 + d) :
    hexval c = some (BitVec.ofNat 4 (10 + d)) := by
  simp only [hexval]
  rw [if_neg (by omega), if_neg (by omega), if_pos (by omega), show c.toNat - 0x61 + 10 = 10 + d by omega]

theorem hexval_other {c : Byte}
    (hc : c.toNat < 0x30 ∨ (0x39 < c.toNat ∧ c.toNat < 0x41) ∨ (0x46 < c.toNat ∧ c.toNat < 0x61) ∨ 0x66 < c.toNat) :
    hexval c = none := by
  simp only [hexval]
  rw [if_neg (by omega), if_neg (by omega), if_neg (by omega)]

theorem byteOfNibbles_toNat (hi lo : Nibble) : (byteOfNibbles hi lo).toNat = 16 * hi.toNat + lo.toNat := by
  rw [byteOfNibbles, BitVec.toNat_ofNat]
  omega

theorem highNibble_toNat (v : Byte) : (v.extractLsb' 4 4).toNat = v.toNat / 16 := by
  rw [BitVec.extractLsb'_toNat, Nat.shiftRight_eq_div_pow]
  omega

theorem lowNibble_toNat (v : Byte) : (v.extractLsb' 0 4).toNat = v.toNat % 16 := by
  rw [BitVec.extractLsb'_toNat, Nat.shiftRight_zero]

theorem highNibble_byteOfNibbles (hi lo : Nibble) : (byteOfNibbles hi lo).extractLsb' 4 4 = hi := by
  apply BitVec.eq_of_toNat_eq
  rw [highNibble_toNat, byteOfNibbles_toNat]
  omega

theorem lowNibble_byteOfNibbles (hi lo : Nibble) : (byteOfNibbles hi lo).extractLsb' 0 4 = lo := by
  apply BitVec.eq_of_toNat_eq
  rw [lowNibble_toNat, byteOfNibbles_toNat]
  omega

theorem byteOfNibbles_nibbles (v : Byte) : byteOfNibbles (v.extractLsb' 4 4) (v.extractLsb' 0 4) = v := by
  apply BitVec.eq_of_toNat_eq
  rw [byteOfNibbles_toNat, highNibble_toNat, lowNibble_toNat]
  omega

/-- Settles O22: the three ranges of hex characters, every byte outside them, and the base-16 digits of a byte. -/
theorem hexCharactersAndPairsGiveTheirBytes : Obligations.HexCharactersAndPairsGiveTheirBytes :=
  ⟨fun _ => ⟨fun _ => hexval_decimal, fun _ hd hc => hc.elim (hexval_upper hd) (hexval_lower hd), hexval_other⟩,
    fun hi lo => ⟨byteOfNibbles_toNat hi lo, highNibble_byteOfNibbles hi lo, lowNibble_byteOfNibbles hi lo⟩,
    byteOfNibbles_nibbles⟩

end Sys2Proof.Machine
end

section
/-! Requests presented together (30_encoding.md rule R85, 60_exceptions.md rule R200): the first is executed, and what is
left of the vector stands at the head of the script. -/

namespace Sys2Proof.Machine

variable {s : State} {xreq rest : BitVec 3} {w : BitVec 1152} {es : List Event} {i : Instr}

theorem step_request (hs : s.script = .request xreq w :: es) : step s = runWord (.x xreq w) { s with script := es } :=
  step_script_cons hs

theorem requeue_last (hr : restOfRequest xreq = 0) : requeue (.x xreq w) s = s := by
  rw [requeue, if_pos hr]

theorem requeue_more (hr : restOfRequest xreq = rest) (hn : rest ≠ 0) :
    requeue (.x xreq w) s = { s with script := .request rest w :: s.script } := by
  rw [requeue, hr, if_neg hn]

theorem step_request_last (hd : decode (.x xreq w) = .ok i) (hr : restOfRequest xreq = 0)
    (hs : s.script = .request xreq w :: es) : step s = exec i { s with script := es } := by
  rw [step_request hs, runWord_ok hd, requeue_last hr]

theorem step_request_more (hd : decode (.x xreq w) = .ok i) (hr : restOfRequest xreq = rest) (hn : rest ≠ 0)
    (hs : s.script = .request xreq w :: es) : step s = exec i { s with script := .request rest w :: es } := by
  rw [step_request hs, runWord_ok hd, requeue_more hr hn]

end Sys2Proof.Machine
end

section
namespace Sys2Proof.Machine

/-- Settles O31: a vector of no request does not decode; one of a single request leaves nothing; one of more leaves the
vector without its lowest 1 bit. -/
theorem requestsAreServedStartStopDeposit : Obligations.RequestsAreServedStartStopDeposit := by
  intro s w es
  refine ⟨?none, ?start, ?stop, ?startStop, ?deposit, ?startDeposit, ?stopDeposit, ?all⟩
  case none => intro hs; exact (step_request hs).trans (runWord_error rfl _)
  case start | stop | deposit => exact step_request_last rfl rfl
  case startStop | startDeposit | stopDeposit | all => exact step_request_more rfl rfl (by decide)

end Sys2Proof.Machine
end

/-! # Proofs for 40_frame_decoder.md: DECODE's outcomes (O19, O20, O27), what it reads of a payload (O23, O24), and ENCODE
as its inverse (O25, O26) -/

section
/-! Hex digits and upper case (30_encoding.md rule R71, 40_frame_decoder.md rule R107). -/

namespace Sys2Proof.Machine

theorem hexDigit_decimal_toNat {v : Nibble} {d : Nat} (hd : d < 10) (hv : v.toNat = d) :
    (hexDigit v).toNat = 0x30 + d := by
  rw [hexDigit, if_pos (by omega), hv, BitVec.toNat_ofNat]
  omega

theorem hexDigit_letter_toNat {v : Nibble} {d : Nat} (hd : d < 6) (hv : v.toNat = 10 + d) :
    (hexDigit v).toNat = 0x41 + d := by
  rw [hexDigit, if_neg (by omega), hv, BitVec.toNat_ofNat]
  omega

theorem upperCase_lower_toNat {c : Byte} {d : Nat} (hd : d < 6) (hc : c.toNat = 0x61 + d) :
    (upperCase c).toNat = 0x41 + d := by
  rw [upperCase, if_pos (by omega)]
  bv_omega

theorem upperCase_other {c : Byte} (hc : c.toNat < 0x61 ∨ 0x66 < c.toNat) : upperCase c = c := by
  rw [upperCase, if_neg (by omega)]

/-- A byte is a decimal digit, an upper-case or a lower-case hex letter, or no hex character. -/
theorem hex_cases (c : Byte) : (∃ d < 10, c.toNat = 0x30 + d) ∨ (∃ d < 6, c.toNat = 0x41 + d) ∨
    (∃ d < 6, c.toNat = 0x61 + d) ∨ hexval c = none := by
  by_cases hdec : 0x30 ≤ c.toNat ∧ c.toNat ≤ 0x39
  · exact .inl ⟨c.toNat - 0x30, by omega, by omega⟩
  by_cases hup : 0x41 ≤ c.toNat ∧ c.toNat ≤ 0x46
  · exact .inr (.inl ⟨c.toNat - 0x41, by omega, by omega⟩)
  by_cases hlow : 0x61 ≤ c.toNat ∧ c.toNat ≤ 0x66
  · exact .inr (.inr (.inl ⟨c.toNat - 0x61, by omega, by omega⟩))
  · exact .inr (.inr (.inr (hexval_other (by omega))))

@[simp] theorem hexval_hexDigit (v : Nibble) : hexval (hexDigit v) = some v := by
  by_cases hdec : v.toNat < 10
  · rw [hexval_decimal hdec (hexDigit_decimal_toNat hdec rfl), BitVec.ofNat_toNat, BitVec.setWidth_eq]
  · obtain ⟨d, hd, hv⟩ : ∃ d < 6, v.toNat = 10 + d := ⟨v.toNat - 10, by omega, by omega⟩
    rw [hexval_upper hd (hexDigit_letter_toNat hd hv), ← hv, BitVec.ofNat_toNat, BitVec.setWidth_eq]

/-- The case of a letter does not change its value. -/
@[simp] theorem hexval_upperCase (c : Byte) : hexval (upperCase c) = hexval c := by
  by_cases hlow : 0x61 ≤ c.toNat ∧ c.toNat ≤ 0x66
  · obtain ⟨d, hd, hc⟩ : ∃ d < 6, c.toNat = 0x61 + d := ⟨c.toNat - 0x61, by omega, by omega⟩
    rw [hexval_upper hd (upperCase_lower_toNat hd hc), hexval_lower hd hc]
  · rw [upperCase_other (by omega)]

theorem nibble_toNat {n : Nat} (h : n < 16) : (BitVec.ofNat 4 n).toNat = n :=
  (BitVec.toNat_ofNat n 4).trans (Nat.mod_eq_of_lt h)

/-- The digit of a hex character's value is the character in upper case. -/
theorem hexDigit_of_hexval {c : Byte} {v : Nibble} (h : hexval c = some v) : hexDigit v = upperCase c := by
  apply BitVec.eq_of_toNat_eq
  obtain ⟨d, hd, hc⟩ | ⟨d, hd, hc⟩ | ⟨d, hd, hc⟩ | hnone := hex_cases c
  · cases (hexval_decimal hd hc).symm.trans h
    rw [hexDigit_decimal_toNat hd (nibble_toNat (by omega)), upperCase_other (by omega), hc]
  · cases (hexval_upper hd hc).symm.trans h
    rw [hexDigit_letter_toNat hd (nibble_toNat (by omega)), upperCase_other (by omega), hc]
  · cases (hexval_lower hd hc).symm.trans h
    rw [hexDigit_letter_toNat hd (nibble_toNat (by omega)), upperCase_lower_toNat hd hc]
  · cases hnone.symm.trans h

end Sys2Proof.Machine
end

section
/-! The characters of a payload by index, and the first one that is not hex (40_frame_decoder.md rules R104, R105). -/

namespace Sys2Proof.Machine

variable {c d : List Byte} {k : Nat}

theorem charAt_eq_getElem (h : k < c.length) : charAt c k = c.get ⟨k, h⟩ := List.getD_eq_getElem c 0 h

theorem charAt_append_left (rest : List Byte) (h : k < c.length) : charAt (c ++ rest) k = charAt c k :=
  List.getD_append c rest 0 k h

theorem charAt_map_upperCase (c : List Byte) (k : Nat) : charAt (c.map upperCase) k = upperCase (charAt c k) :=
  List.getD_map c 0 upperCase

theorem ext_charAt (hlen : c.length = d.length) (h : ∀ k < c.length, charAt c k = charAt d k) : c = d := by
  apply List.ext_getElem hlen
  intro k hc hd
  exact (charAt_eq_getElem hc).symm.trans ((h k hc).trans (charAt_eq_getElem hd))

/-- The first 288 characters are all hex characters. -/
def AllHex (c : List Byte) : Prop := ∀ k < 288, (hexval (charAt c k)).isSome = true

/-- The characters among which the first non-hex one is looked for. -/
theorem getElem_take_charAt (h : k < (c.take 288).length) : (c.take 288)[k] = charAt c k := by
  rw [List.getElem_take, charAt_eq_getElem (h.trans_le (List.length_take_le' 288 c)), List.get_eq_getElem]

theorem firstNonHex_eq_some_iff (hlen : 288 ≤ c.length) : firstNonHex c = some k ↔
    k < 288 ∧ hexval (charAt c k) = none ∧ ∀ j < k, (hexval (charAt c j)).isSome = true := by
  rw [firstNonHex, List.findIdx?_eq_some_iff_getElem]
  simp only [getElem_take_charAt, List.length_take_of_le hlen]
  simp [Option.isSome_iff_ne_none, and_left_comm]

theorem firstNonHex_eq_none_iff (hlen : 288 ≤ c.length) : firstNonHex c = none ↔ AllHex c := by
  rw [firstNonHex, List.findIdx?_eq_none_iff, List.forall_mem_iff_getElem]
  simp only [getElem_take_charAt, List.length_take_of_le hlen]
  simp [AllHex]

end Sys2Proof.Machine
end

section
/-! DECODE's outcomes (40_frame_decoder.md rules R102, R103, R105), and what they depend on. -/

namespace Sys2Proof.Machine

variable {mode : NonHex} {bad : Nat → Nibble} {c d : List Byte} {k : Nat}

theorem decodePayload_short (h : c.length < 288) : decodePayload mode bad c = .error .insufficientData := if_pos h

theorem decodePayload_draw (hlen : 288 ≤ c.length) : decodePayload .draw bad c = .ok (assemble bad c) :=
  if_neg (by omega)

theorem decodePayload_badDigit (hlen : 288 ≤ c.length) (h : firstNonHex c = some k) :
    decodePayload .reject bad c = .error (.invalidHexDigit k) := by
  rw [decodePayload, if_neg (by omega)]
  simp only [h]

/-- A payload of hex characters decodes, whatever is done with other characters. -/
theorem decodePayload_allHex (hlen : 288 ≤ c.length) (h : AllHex c) : decodePayload mode bad c = .ok (assemble bad c) := by
  cases mode with
  | draw => exact decodePayload_draw hlen
  | reject =>
    rw [decodePayload, if_neg (by omega)]
    simp only [(firstNonHex_eq_none_iff hlen).2 h]

/-- Under `NonHex.reject` only a payload of hex characters decodes. -/
theorem allHex_of_decodePayload_ok {f : Frame} (h : decodePayload .reject bad c = .ok f) :
    288 ≤ c.length ∧ AllHex c := by
  by_cases hshort : c.length < 288
  · rw [decodePayload_short hshort] at h; cases h
  have hlen : 288 ≤ c.length := Nat.le_of_not_lt hshort
  cases hk : firstNonHex c with
  | none => exact ⟨hlen, (firstNonHex_eq_none_iff hlen).1 hk⟩
  | some k => rw [decodePayload_badDigit hlen hk] at h; cases h

@[simp] theorem byteOf_assemble (bad : Nat → Nibble) (c : List Byte) (r : Fin 8) (b : Fin 18) :
    byteOf (assemble bad c) r b = byteOfNibbles (nibbleAt bad c (2 * (18 * r.val + b.val)))
      (nibbleAt bad c (2 * (18 * r.val + b.val) + 1)) :=
  byteOf_ofFn _ r b

theorem nibbleAt_of_hexval {v : Nibble} (h : hexval (charAt c k) = some v) : nibbleAt bad c k = v := by
  rw [nibbleAt, h, Option.getD_some]

/-- DECODE reads of a payload whether it is long enough and the values of its first 288 characters. -/
theorem decodePayload_congr (hlen : c.length < 288 ↔ d.length < 288)
    (hval : ∀ k < 288, hexval (charAt c k) = hexval (charAt d k)) :
    decodePayload mode bad c = decodePayload mode bad d := by
  by_cases hshort : c.length < 288
  · rw [decodePayload_short hshort, decodePayload_short (hlen.1 hshort)]
  have hc : 288 ≤ c.length := by omega
  have hd : 288 ≤ d.length := by omega
  have hasm : assemble bad c = assemble bad d := by
    apply frame_ext
    intro r b
    simp only [byteOf_assemble, nibbleAt]
    rw [hval _ (by omega), hval _ (by omega)]
  cases mode with
  | draw => rw [decodePayload_draw hc, decodePayload_draw hd, hasm]
  | reject =>
    cases hk : firstNonHex c with
    | none =>
      have hex : AllHex c := (firstNonHex_eq_none_iff hc).1 hk
      have hex' : AllHex d := fun k hk => hval k hk ▸ hex k hk
      rw [decodePayload_allHex hc hex, decodePayload_allHex hd hex', hasm]
    | some k =>
      obtain ⟨hlt, hnone, hbefore⟩ := (firstNonHex_eq_some_iff hc).1 hk
      have hk' : firstNonHex d = some k := (firstNonHex_eq_some_iff hd).2
        ⟨hlt, hval k hlt ▸ hnone, fun j hj => hval j (hj.trans hlt) ▸ hbefore j hj⟩
      rw [decodePayload_badDigit hc hk, decodePayload_badDigit hd hk']

theorem decodePayload_append (rest : List Byte) (hlen : 288 ≤ c.length) :
    decodePayload mode bad (c ++ rest) = decodePayload mode bad c :=
  decodePayload_congr (by rw [List.length_append]; omega) fun k hk => by rw [charAt_append_left rest (by omega)]

theorem decodePayload_map_upperCase (mode : NonHex) (bad : Nat → Nibble) (c : List Byte) :
    decodePayload mode bad (c.map upperCase) = decodePayload mode bad c :=
  decodePayload_congr (by rw [List.length_map]) fun k _ => by rw [charAt_map_upperCase, hexval_upperCase]

end Sys2Proof.Machine
end

section
/-! ENCODE (40_frame_decoder.md rule R109): character `2*off` is the high digit of the byte at offset `off`, character
`2*off + 1` its low digit. -/

namespace Sys2Proof.Machine

variable {bad : Nat → Nibble} {c : List Byte}

@[simp] theorem encodeFrame_length (f : Frame) : (encodeFrame f).length = 288 := by
  rw [encodeFrame, length_flatMap_blocks _ _ 2 (fun _ _ => rfl), frameBytesOf_length]

/-- Character `j` of the two that byte `F[r][b]` becomes. -/
theorem charAt_encodeFrame (f : Frame) (r : Fin 8) (b : Fin 18) {j : Nat} (hj : j < 2) :
    charAt (encodeFrame f) (2 * (18 * r.val + b.val) + j) =
      charAt [hexDigit ((byteOf f r b).extractLsb' 4 4), hexDigit ((byteOf f r b).extractLsb' 0 4)] j := by
  rw [charAt, charAt, List.getD_eq_getElem?_getD, List.getD_eq_getElem?_getD, encodeFrame, Nat.mul_comm 2,
    getElem?_flatMap_blocks _ _ 2 (fun _ _ => rfl) _ _ hj, frameBytesOf_getElem?, Option.bind_some]

theorem charAt_encodeFrame_high (f : Frame) (r : Fin 8) (b : Fin 18) :
    charAt (encodeFrame f) (2 * (18 * r.val + b.val)) = hexDigit ((byteOf f r b).extractLsb' 4 4) :=
  charAt_encodeFrame f r b (j := 0) (by decide)

theorem charAt_encodeFrame_low (f : Frame) (r : Fin 8) (b : Fin 18) :
    charAt (encodeFrame f) (2 * (18 * r.val + b.val) + 1) = hexDigit ((byteOf f r b).extractLsb' 0 4) :=
  charAt_encodeFrame f r b (j := 1) (by decide)

/-- Every index below 288 is the high or the low digit of one byte. -/
theorem digit_position {k : Nat} (hk : k < 288) :
    ∃ (r : Fin 8) (b : Fin 18), k = 2 * (18 * r.val + b.val) ∨ k = 2 * (18 * r.val + b.val) + 1 :=
  ⟨⟨k / 36, by omega⟩, ⟨k / 2 % 18, by omega⟩, by dsimp only; omega⟩

theorem allHex_encodeFrame (f : Frame) : AllHex (encodeFrame f) := by
  intro k hk
  obtain ⟨r, b, rfl | rfl⟩ := digit_position hk
  · rw [charAt_encodeFrame_high, hexval_hexDigit, Option.isSome_some]
  · rw [charAt_encodeFrame_low, hexval_hexDigit, Option.isSome_some]

/-- The two digits of each byte give the byte back. -/
theorem assemble_encodeFrame (bad : Nat → Nibble) (f : Frame) : assemble bad (encodeFrame f) = f := by
  apply frame_ext
  intro r b
  rw [byteOf_assemble, nibbleAt_of_hexval (by rw [charAt_encodeFrame_high, hexval_hexDigit]),
    nibbleAt_of_hexval (by rw [charAt_encodeFrame_low, hexval_hexDigit]), byteOfNibbles_nibbles]

theorem charAt_encodeFrame_assemble (bad : Nat → Nibble) (c : List Byte) {k : Nat} (hk : k < 288) :
    charAt (encodeFrame (assemble bad c)) k = hexDigit (nibbleAt bad c k) := by
  obtain ⟨r, b, rfl | rfl⟩ := digit_position hk
  · rw [charAt_encodeFrame_high, byteOf_assemble, highNibble_byteOfNibbles]
  · rw [charAt_encodeFrame_low, byteOf_assemble, lowNibble_byteOfNibbles]

theorem encodeFrame_assemble (hlen : c.length = 288) (h : AllHex c) :
    encodeFrame (assemble bad c) = c.map upperCase := by
  apply ext_charAt (by rw [encodeFrame_length, List.length_map, hlen])
  intro k hk
  rw [encodeFrame_length] at hk
  obtain ⟨v, hv⟩ := Option.isSome_iff_exists.1 (h k hk)
  rw [charAt_encodeFrame_assemble bad c hk, nibbleAt_of_hexval hv, hexDigit_of_hexval hv, charAt_map_upperCase]

/-- Settles O25: the characters of ENCODE are hex, and their values are the nibbles of the Frame. -/
theorem decodeOfEncodeIsTheFrame : Obligations.DecodeOfEncodeIsTheFrame := by
  intro mode bad f
  have hlen := encodeFrame_length f
  exact ⟨hlen, by rw [decodePayload_allHex hlen.ge (allHex_encodeFrame f), assemble_encodeFrame]⟩

/-- Settles O26: the Frame of an accepted payload is assembled from hex characters, and each of them is its own digit but
for the case. -/
theorem encodeOfDecodeIsThePayloadInUpperCase : Obligations.EncodeOfDecodeIsThePayloadInUpperCase := by
  intro bad c f hlen hok
  obtain ⟨hle, hex⟩ := allHex_of_decodePayload_ok hok
  rw [decodePayload_allHex hle hex] at hok
  cases hok
  exact encodeFrame_assemble hlen hex

end Sys2Proof.Machine
end

section
/-! DECODE and WRITE as operations of the boundary software (40_frame_decoder.md rules R102 to R107). -/

namespace Sys2Proof.Machine

variable {c d : List Byte} {s : State}

theorem decodeNow_eq (c : List Byte) (s : State) :
    decodeNow c s = decodePayload .reject (Config.freeNibble s.draws) c := by
  rw [decodeNow, hardware_nonhex]

theorem decodeNow_short (s : State) (h : c.length < 288) : decodeNow c s = .error .insufficientData := by
  rw [decodeNow_eq, decodePayload_short h]

theorem exec_frameDecode_congr (h : decodeNow c s = decodeNow d s) :
    exec (.frameDecode c) s = exec (.frameDecode d) s := by
  cases hd : decodeNow d s with
  | error e => rw [exec_frameDecode_error hd, exec_frameDecode_error (h.trans hd)]
  | ok f => rw [exec_frameDecode_ok hd, exec_frameDecode_ok (h.trans hd)]

theorem exec_devWrite_congr (h : decodeNow c s = decodeNow d s) : exec (.devWrite c) s = exec (.devWrite d) s := by
  cases hd : decodeNow d s with
  | error e => rw [exec_devWrite_error hd, exec_devWrite_error (h.trans hd)]
  | ok f => rw [exec_devWrite_ok hd, exec_devWrite_ok (h.trans hd)]

/-- Settles O19: too short, a first bad character, or all hex. -/
theorem decodeAssemblesTheFrameRowMajor : Obligations.DecodeAssemblesTheFrameRowMajor := by
  intro c s
  refine ⟨fun hshort => exec_frameDecode_error (decodeNow_short s hshort), fun hlen => ⟨?badDigit, ?allHex⟩⟩
  case badDigit =>
    intro k hk hnone hbefore
    apply exec_frameDecode_error
    rw [decodeNow_eq, decodePayload_badDigit hlen ((firstNonHex_eq_some_iff hlen).2 ⟨hk, hnone, hbefore⟩)]
  case allHex =>
    intro hex
    have hok := (decodeNow_eq c s).trans (decodePayload_allHex hlen hex)
    refine ⟨_, exec_frameDecode_ok hok, fun r b hi lo hhi hlo => ?_⟩
    rw [byteOf_assemble, nibbleAt_of_hexval hhi, nibbleAt_of_hexval hlo, byteOfNibbles_toNat]

/-- Settles O23: a payload decodes as it does in upper case. -/
theorem decodeIgnoresCase : Obligations.DecodeIgnoresCase := by
  intro mode bad c d h
  rw [← decodePayload_map_upperCase mode bad c, h, decodePayload_map_upperCase]

/-- Settles O24: what follows the first 288 characters does not change what DECODE gives. -/
theorem decodeReadsOnlyTheFirst288 : Obligations.DecodeReadsOnlyTheFirst288 := by
  intro c rest s hlen
  have h : decodeNow (c ++ rest) s = decodeNow c s := decodePayload_append rest hlen.ge
  exact ⟨exec_frameDecode_congr h, exec_devWrite_congr h⟩

/-- Settles O27: `assemble` gives each character its own nibble, or the one drawn for it. -/
theorem drawModeGivesEveryBadCharacterItsNibble : Obligations.DrawModeGivesEveryBadCharacterItsNibble := by
  intro bad c hlen
  refine ⟨_, decodePayload_draw hlen, fun r b => ?_⟩
  rw [byteOf_assemble, byteOfNibbles_toNat, nibbleAt, nibbleAt]

/-- Settles O20: DECODE raises before anything else is done, whether the slot is empty or full. -/
theorem shortPayloadIsRejectedWithoutEffect : Obligations.ShortPayloadIsRejectedWithoutEffect :=
  fun _ s h => ⟨exec_devWrite_error (decodeNow_short s h), exec_frameDecode_error (decodeNow_short s h)⟩

end Sys2Proof.Machine
end

/-! # Proofs for 41_pending_slot.md: DEPOSIT (O3) and TAKE (O4), and two deposits before a take (O6) -/

section
/-! The Pending-Frame Slot (41_pending_slot.md rules R116, R118, R120). -/

namespace Sys2Proof.Machine

/-- Settles O3: an empty slot is filled, on a full one the call joins the list of those who wait. -/
theorem depositFillsAnEmptySlotAndWaitsOnAFullOne : Obligations.DepositFillsAnEmptySlotAndWaitsOnAFullOne := by
  refine ⟨decode_deposit, fun f s => ⟨fun hempty => ?_, fun hfull => ?_⟩⟩
  · exact ⟨_, exec_deposit_empty f hempty, rfl⟩
  · exact ⟨_, exec_deposit_full f hfull, rfl⟩

/-- Settles O4: a full slot is drained into `ACT`, on an empty one only the position moves. -/
theorem takeConsumesTheReadyFrame : Obligations.TakeConsumesTheReadyFrame := by
  refine ⟨rfl, fun s => ⟨fun hfull => ?_, fun hempty => ?_⟩⟩
  · exact ⟨_, exec_take_full hfull, rfl⟩
  · exact exec_take_empty hempty

/-- A DEPOSIT held alone is resumed once TAKE has drained the slot: its Frame fills the slot again and nobody waits. -/
theorem resumeHeld_after_take {s : State} {g : Frame} (hh : s.held = [{ frame := g, caller := .port }]) :
    State.resumeHeld 0 (State.goto .advance (State.drainSlot s)) =
      { s with act := s.pnd, ph := .advance, held := [], pnd := g, rdy := true, rdyP := true, rdyS := true } :=
  resumeHeld_middle (s := State.goto .advance (State.drainSlot s)) (before := []) (after := []) hh rfl

/-- Settles O6: the slot is filled with `f`, `g` waits while it is full, TAKE drains it, `g` is resumed and taken. -/
theorem secondDepositWaitsForTheFirstToBeTaken : Obligations.SecondDepositWaitsForTheFirstToBeTaken := by
  intro f g s hempty hnone
  have hheld : (State.fillSlot f s).held ++ [{ frame := g, caller := .port }] = [{ frame := g, caller := .port }] := by
    rw [State.fillSlot_held, hnone, List.nil_append]
  exact ⟨_, _, _, _, _,
    exec_deposit_empty f hempty,
    exec_deposit_full g rfl, rfl, rfl,
    exec_take_full rfl, rfl, resumeHeld_full 0 rfl,
    resumeHeld_after_take hheld, rfl, rfl, rfl, rfl,
    exec_take_full rfl, rfl, rfl⟩

end Sys2Proof.Machine
end

/-! # Proofs for 42_row_serializer.md: SHIFT_DATA (O7), the clock pulse (O8), the row word (O49) and the display (O53) -/

section
/-! The three micro-operations of the Row Serializer (42_row_serializer.md rules R131 to R133), alone and as steps of the
scanner. -/

namespace Sys2Proof.Machine

/-- Settles O7: the cell that `BITCNT` names in the row that `ROW` names goes on `DATA`. -/
theorem shiftDataPresentsTheCellBit : Obligations.ShiftDataPresentsTheCellBit := by
  refine ⟨rfl, fun s r b i hrow hbit => ?_⟩
  rw [exec_shiftData, rowCell_eq s.act s.row s.bitcnt r b i hrow hbit]
  rfl

theorem exec_shiftClkl_last {s : State} (h : s.bitcnt = lastBit) :
    exec .shiftClkl s = .next { s with clk := false, bitcnt := 0, ph := .blankOn } := by
  rw [exec_shiftClkl, if_pos h]
  rfl

theorem exec_shiftClkl_more {s : State} (h : s.bitcnt ≠ lastBit) :
    exec .shiftClkl s = .next { s with clk := false, bitcnt := s.bitcnt + 1, ph := .shiftData } := by
  rw [exec_shiftClkl, if_neg h]
  rfl

/-- Settles O8: the pulse rises, falls and is counted, and the 144th is the last. -/
theorem clockPulseRisesFallsAndIsCounted : Obligations.ClockPulseRisesFallsAndIsCounted :=
  ⟨rfl, rfl, fun s => ⟨exec_shiftClkh s,
    fun hlast => exec_shiftClkl_last (BitVec.eq_of_toNat_eq hlast),
    fun hmore => exec_shiftClkl_more fun e => hmore (by rw [e]; rfl)⟩⟩

theorem scan_at {s : State} {p : Phase} (h : s.ph = p) : scan s = exec (microOp p) s := by
  rw [scan_eq, h]

theorem scan_shiftData {s : State} (h : s.ph = .shiftData) :
    scan s = .next { s with data := rowCell (rowOf s.act s.row) s.bitcnt, ph := .shiftClkh } :=
  scan_at h

theorem scan_shiftClkh {s : State} (h : s.ph = .shiftClkh) :
    scan s = .next { s with clk := true, ph := .shiftClkl } :=
  scan_at h

theorem scan_shiftClkl_last {s : State} (h : s.ph = .shiftClkl) (hbit : s.bitcnt = lastBit) :
    scan s = .next { s with clk := false, bitcnt := 0, ph := .blankOn } :=
  (scan_at h).trans (exec_shiftClkl_last hbit)

theorem scan_shiftClkl_more {s : State} (h : s.ph = .shiftClkl) (hbit : s.bitcnt ≠ lastBit) :
    scan s = .next { s with clk := false, bitcnt := s.bitcnt + 1, ph := .shiftData } :=
  (scan_at h).trans (exec_shiftClkl_more hbit)

end Sys2Proof.Machine
end

section
/-! The row word on `DATA` (42_row_serializer.md rules R130, R134): one bit takes three steps, and a row 144 bits. -/

namespace Sys2Proof.Machine

/-- The scanner is about to send the first bit of a row (R130). -/
structure AtRowStart (s : State) : Prop where
  ph : s.ph = .shiftData
  bitcnt : s.bitcnt = 0
  clk : s.clk = false

/-- `W[n]` of the row that `ROW` names (30_encoding.md rule R74). -/
def rowBit (s : State) (n : Nat) : Bool := rowCell (rowOf s.act s.row) (BitVec.ofNat 8 n)

/-- The row's first state `s` when bit `n` is the next to be sent; `level` stands on `DATA` still. -/
def bitDue (s : State) (level : Bool) (n : Nat) : State :=
  { s with data := level, bitcnt := BitVec.ofNat 8 n, ph := .shiftData }

/-- Bit `n` stands on `DATA` and `CLK` has not risen yet. -/
def bitShown (s : State) (n : Nat) : State :=
  { s with data := rowBit s n, bitcnt := BitVec.ofNat 8 n, ph := .shiftClkh }

/-- `CLK` has risen on bit `n`. -/
def bitClocked (s : State) (n : Nat) : State :=
  { s with data := rowBit s n, bitcnt := BitVec.ofNat 8 n, clk := true, ph := .shiftClkl }

/-- `CLK` has fallen again: bit `n + 1` is due, or the row is complete. -/
def bitSent (s : State) (n : Nat) : State :=
  { s with
    data := rowBit s n
    bitcnt := if n = 143 then 0 else BitVec.ofNat 8 (n + 1)
    ph := if n = 143 then .blankOn else .shiftData }

theorem bitDue_zero {s : State} (h : AtRowStart s) : bitDue s s.data 0 = s := by
  rw [bitDue, ← h.ph, show BitVec.ofNat 8 0 = s.bitcnt from h.bitcnt.symm]

theorem bitSent_eq_bitDue (s : State) {n : Nat} (hn : n < 143) : bitSent s n = bitDue s (rowBit s n) (n + 1) := by
  have hne : n ≠ 143 := by omega
  simp [bitSent, bitDue, hne]

/-- Bit `8*b + i` of the row word is bit `7 - i` of byte `b`. -/
theorem rowBit_eq {s : State} {r : Fin 8} (hrow : s.row.toNat = r.val) (b : Fin 18) (i : Fin 8) :
    rowBit s (8 * b.val + i.val) = (byteOf s.act r b).getLsbD (7 - i.val) :=
  rowCell_eq s.act s.row _ r b i hrow (by rw [BitVec.toNat_ofNat]; omega)

theorem ofNat_eq_lastBit_iff {n : Nat} (hn : n < 144) : BitVec.ofNat 8 n = lastBit ↔ n = 143 := by
  rw [lastBit]
  constructor <;> intro h
  · bv_omega
  · rw [h]; rfl

/-! ### One bit -/

theorem scan_bitDue (s : State) (level : Bool) (n : Nat) : scan (bitDue s level n) = .next (bitShown s n) :=
  scan_shiftData rfl

theorem scan_bitShown (s : State) (n : Nat) : scan (bitShown s n) = .next (bitClocked s n) :=
  scan_shiftClkh rfl

theorem scan_bitClocked {s : State} (hclk : s.clk = false) {n : Nat} (hn : n < 144) :
    scan (bitClocked s n) = .next (bitSent s n) := by
  have hbit : (bitClocked s n).bitcnt = lastBit ↔ n = 143 := ofNat_eq_lastBit_iff hn
  by_cases hlast : n = 143
  · rw [scan_shiftClkl_last rfl (hbit.2 hlast)]
    simp [bitClocked, bitSent, hlast, hclk]
  · rw [scan_shiftClkl_more rfl (hlast ∘ hbit.1)]
    simp [bitClocked, bitSent, hlast, hclk, BitVec.ofNat_add]

/-! ### A row -/

/-- A run of `m` micro-operations, continued. -/
theorem scanRun_then {m : Nat} {s t : State} (h : scanRun m s = .next t) (n : Nat) :
    scanRun (m + n) s = scanRun n t := by
  rw [scanRun_add, h, andThen_next]

theorem scanRun_bit {s : State} (hclk : s.clk = false) (level : Bool) {n : Nat} (hn : n < 144) :
    scanRun 1 (bitDue s level n) = .next (bitShown s n) ∧
      scanRun 2 (bitDue s level n) = .next (bitClocked s n) ∧
      scanRun 3 (bitDue s level n) = .next (bitSent s n) := by
  simp only [scanRun, scan_bitDue, scan_bitShown, scan_bitClocked hclk hn, andThen_next, and_self]

/-- Bit `n` is due when three steps have been taken for each bit before it. -/
theorem scanRun_bitDue {s : State} (h : AtRowStart s) {n : Nat} (hn : n < 144) :
    ∃ level, scanRun (3 * n) s = .next (bitDue s level n) := by
  induction n with
  | zero => exact ⟨s.data, by rw [bitDue_zero h]; rfl⟩
  | succ n ih =>
    obtain ⟨level, hrun⟩ := ih (by omega)
    obtain ⟨_, _, hsent⟩ := scanRun_bit h.clk level (n := n) (by omega)
    exact ⟨rowBit s n, by rw [Nat.mul_succ, scanRun_then hrun, hsent, bitSent_eq_bitDue s (by omega)]⟩

/-- Settles O49: bit `n` is due after `3 * n` steps; then come its level, its rising and its falling edge. -/
theorem serializerEmitsTheRowWord : Obligations.SerializerEmitsTheRowWord := by
  intro s hph hbit hclk n level r b i hn hrow hlevel
  rw [← rowBit_eq hrow b i, ← hn] at hlevel
  subst hlevel
  have hlt : n < 144 := by omega
  obtain ⟨before, hrun⟩ := scanRun_bitDue ⟨hph, hbit, hclk⟩ hlt
  obtain ⟨hshown, hclocked, hsent⟩ := scanRun_bit hclk before hlt
  exact ⟨(scanRun_then hrun 1).trans hshown, (scanRun_then hrun 2).trans hclocked, (scanRun_then hrun 3).trans hsent⟩

end Sys2Proof.Machine
end

section
/-! The observer of the shift chain and the output latches (42_row_serializer.md rules R138, R139). -/

namespace Sys2Proof.Machine

/-! ### The observer -/

/-- The observer keeps what it holds where neither `CLK` nor `LATCH` rises. -/
theorem Display.watch_eq_self {before after : State} (d : Display) (hclk : after.clk = true → before.clk = true)
    (hlatch : after.latch = true → before.latch = true) : Display.watch before after d = d := by
  have hc : ¬ (before.clk = false ∧ after.clk = true) := fun h => by simp [hclk h.2] at h
  have hl : ¬ (before.latch = false ∧ after.latch = true) := fun h => by simp [hlatch h.2] at h
  simp [Display.watch, hc, hl]

/-- `CLK` rising shifts `DATA` in. -/
theorem Display.watch_clk_rises {before after : State} (d : Display) (hlow : before.clk = false)
    (hhigh : after.clk = true) (hlatch : after.latch = before.latch) :
    Display.watch before after d = { d with sr := d.sr.shiftConcat after.data } := by
  simp [Display.watch, hlow, hhigh, hlatch]

/-- `LATCH` rising copies the chain. -/
theorem Display.watch_latch_rises {before after : State} (d : Display) (hlow : before.latch = false)
    (hhigh : after.latch = true) (hclk : after.clk = before.clk) :
    Display.watch before after d = { sr := d.sr, ol := d.sr } := by
  simp [Display.watch, hlow, hhigh, hclk]

/-- The chain holds the first `n` bits of a row, the last one sent in stage 0. -/
def Display.Holds (d : Display) (s : State) (n : Nat) : Prop := ∀ k < n, d.sr.getLsbD (n - 1 - k) = rowBit s k

/-- One more bit shifted in moves those before it one stage on; the chain is long enough for 144 of them. -/
theorem Display.Holds.shift {d : Display} {s : State} {n : Nat} (h : Display.Holds d s n) (hn : n < 144) :
    Display.Holds { d with sr := d.sr.shiftConcat (rowBit s n) } s (n + 1) := by
  intro k hk
  rw [BitVec.getLsbD_shiftConcat, decide_eq_true (by omega : n + 1 - 1 - k < 144), Bool.true_and]
  by_cases hlast : k = n
  · rw [if_pos (by omega), hlast]
  · rw [if_neg (by omega), ← h k (by omega)]
    congr 1
    omega

/-! ### A watched run -/

theorem watchRun_succ_of_scan {s t : State} (h : scan s = .next t) (n : Nat) (d : Display) :
    watchRun (n + 1) s d = watchRun n t (Display.watch s t d) := by
  rw [watchRun, h]

/-- A micro-operation that raises neither `CLK` nor `LATCH` goes by unseen. -/
theorem watchRun_succ_unseen {s t : State} (h : scan s = .next t) (hclk : t.clk = true → s.clk = true)
    (hlatch : t.latch = true → s.latch = true) (n : Nat) (d : Display) :
    watchRun (n + 1) s d = watchRun n t d := by
  rw [watchRun_succ_of_scan h, Display.watch_eq_self d hclk hlatch]

/-- A watched run of `m` micro-operations, continued. -/
theorem watchRun_then {m : Nat} {s t : State} {d e : Display} (h : watchRun m s d = some (t, e)) (n : Nat) :
    watchRun (m + n) s d = watchRun n t e := by
  induction m generalizing s d with
  | zero => cases h; rw [Nat.zero_add]
  | succ m ih =>
    obtain ⟨u, hu⟩ := exec_answers (microOp s.ph) s
    have hscan := (scan_eq s).trans hu
    rw [watchRun_succ_of_scan hscan] at h
    rw [Nat.succ_add, watchRun_succ_of_scan hscan, ih h]

/-- One bit sent is one shift of the chain, by the level that stood on `DATA` as `CLK` rose. -/
theorem watchRun_bit {s : State} (hclk : s.clk = false) (level : Bool) {n : Nat} (hn : n < 144) (d : Display) :
    watchRun 3 (bitDue s level n) d = some (bitSent s n, { d with sr := d.sr.shiftConcat (rowBit s n) }) := by
  have hrise : Display.watch (bitShown s n) (bitClocked s n) d = { d with sr := d.sr.shiftConcat (rowBit s n) } :=
    Display.watch_clk_rises d hclk rfl rfl
  rw [watchRun_succ_unseen (scan_bitDue s level n) id id, watchRun_succ_of_scan (scan_bitShown s n), hrise,
    watchRun_succ_unseen (scan_bitClocked hclk hn) (fun _ => rfl) id, watchRun]

theorem watchRun_bitDue {s : State} (h : AtRowStart s) (d : Display) {n : Nat} (hn : n < 144) :
    ∃ level e, watchRun (3 * n) s d = some (bitDue s level n, e) ∧ Display.Holds e s n := by
  induction n with
  | zero => exact ⟨s.data, d, by rw [bitDue_zero h]; rfl, fun k hk => absurd hk k.not_lt_zero⟩
  | succ n ih =>
    obtain ⟨level, e, hrun, hholds⟩ := ih (by omega)
    refine ⟨rowBit s n, _, ?_, hholds.shift (by omega)⟩
    rw [Nat.mul_succ, watchRun_then hrun, watchRun_bit h.clk level (by omega), bitSent_eq_bitDue s (by omega)]

/-- After the 144 pulses of a row the chain holds the whole row word. -/
theorem watchRun_row {s : State} (h : AtRowStart s) (d : Display) :
    ∃ e, watchRun 432 s d = some (bitSent s 143, e) ∧ Display.Holds e s 144 := by
  obtain ⟨level, e, hrun, hholds⟩ := watchRun_bitDue h d (n := 143) (by omega)
  exact ⟨_, (watchRun_then hrun 3).trans (watchRun_bit h.clk level (by omega) e), hholds.shift (by omega)⟩

/-! ### A row committed (43_row_scan_driver.md rules R152 to R155) -/

/-- `s` when ADVANCE has begun the next row (R152). -/
def advanced (s : State) : State := { s with row := nextRow s.row, bitcnt := 0, ph := .shiftData }

/-- `s` when BLANK_ON, SELECT and LATCH_ON have committed the row (R153 to R155). -/
def latched (s : State) : State := { s with blank := true, a := s.row, latch := true, ph := .latchOff }

theorem scan_advance {s : State} (h : s.ph = .advance) : scan s = .next (advanced s) := scan_at h

/-- The observer sees nothing of ADVANCE. -/
theorem watchRun_advance {s : State} (h : s.ph = .advance) (d : Display) : watchRun 1 s d = some (advanced s, d) :=
  watchRun_succ_unseen (scan_advance h) id id 0 d

/-- A row committed: its code goes on `A` and the chain into the output latches. -/
theorem watchRun_commit {s : State} (h : s.ph = .blankOn) (hlatch : s.latch = false) (d : Display) :
    watchRun 3 s d = some (latched s, { sr := d.sr, ol := d.sr }) := by
  have hblank : scan s = .next { s with blank := true, ph := .select } := scan_at h
  have hselect : scan { s with blank := true, ph := .select } =
      .next { s with blank := true, a := s.row, ph := .latchOn } := scan_at rfl
  have hlatchOn : scan { s with blank := true, a := s.row, ph := .latchOn } = .next (latched s) := scan_at rfl
  rw [watchRun_succ_unseen hblank id id, watchRun_succ_unseen hselect id id, watchRun_succ_of_scan hlatchOn, watchRun]
  exact congrArg (fun e => some (latched s, e)) (Display.watch_latch_rises d hlatch rfl rfl)

/-- Settles O53: ADVANCE, the row's 432 steps, and the three that commit it. -/
theorem displayLatchesTheRowWord : Obligations.DisplayLatchesTheRowWord := by
  intro s d hph hclk hlatch
  have hadvance := watchRun_advance hph d
  obtain ⟨e, hrow, hholds⟩ := watchRun_row (s := advanced s) ⟨rfl, rfl, hclk⟩ d
  have hcommit := watchRun_commit (s := bitSent (advanced s) 143) rfl hlatch e
  have hrun := (watchRun_then hadvance 435).trans ((watchRun_then hrow 3).trans hcommit)
  refine ⟨_, _, hrun, rfl, BitVec.toNat_add s.row 1, fun r b i hr => ?_⟩
  have hcell := (hholds (8 * b.val + i.val) (by omega)).trans (rowBit_eq hr b i)
  exact ⟨hcell, hcell⟩

end Sys2Proof.Machine
end

/-! # Proofs for 43_row_scan_driver.md: its operations (O9, O10, O11, O13, O14, O36), the control flow (O15, O42), the
scan cycle (O50, O51) and the stop request (O52, O57) -/

section
/-! START, STOP and the driver's micro-operations, each alone (43_row_scan_driver.md rules R146 to R158, R162). -/

namespace Sys2Proof.Machine

theorem exec_start_stopped {s : State} (h : s.run = .stopped) :
    exec .start s = .next { s with run := .running, ph := .check } := by
  rw [exec_start, if_pos h]
  rfl

theorem exec_start_elsewhere {s : State} (h : s.run ≠ .stopped) : exec .start s = .next s := by
  rw [exec_start, if_neg h]

theorem exec_stop_running {s : State} (h : s.run = .running) : exec .stop s = .next { s with run := .stopping } := by
  rw [exec_stop, if_pos h]
  rfl

theorem exec_stop_elsewhere {s : State} (h : s.run ≠ .running) : exec .stop s = .next s := by
  rw [exec_stop, if_neg h]

/-- Settles O9: each of the two in its own run state and in the others. -/
theorem startAndStopActOnlyInTheirStates : Obligations.StartAndStopActOnlyInTheirStates := fun _ =>
  ⟨exec_start_stopped, exec_start_elsewhere, exec_stop_running, exec_stop_elsewhere⟩

theorem exec_check_stopping {s : State} (h : s.run = .stopping) :
    exec .check s = .next { s with run := .halted, ph := .idle } := by
  rw [exec_check, if_pos h]
  rfl

theorem exec_check_elsewhere {s : State} (h : s.run ≠ .stopping) : exec .check s = .next { s with ph := .take } := by
  rw [exec_check, if_neg h]
  rfl

/-- Settles O10: CHECK with a stop pending and without. -/
theorem loopTestObservesTheStopRequest : Obligations.LoopTestObservesTheStopRequest := fun _ =>
  ⟨exec_check_stopping, exec_check_elsewhere⟩

/-- The carry out of three bits is discarded (R152). -/
theorem nextRow_toNat (row : BitVec 3) : (nextRow row).toNat = (row.toNat + 1) % 8 := BitVec.toNat_add row 1

theorem nextRow_eq_ofNat {row : BitVec 3} {n : Nat} (h : n = (row.toNat + 1) % 8) : nextRow row = BitVec.ofNat 3 n := by
  rw [h, ← nextRow_toNat, BitVec.ofNat_toNat, BitVec.setWidth_eq]

/-- Settles O11: the next row by number. -/
theorem advanceWrapsTheRowIndex : Obligations.AdvanceWrapsTheRowIndex := by
  refine ⟨rfl, fun s => ?_⟩
  rw [exec_advance, nextRow_eq_ofNat rfl]
  rfl

/-- Settles O13: the four words and the pin that each of the operations writes. -/
theorem blankAndLatchAreAssertedAndReleased : Obligations.BlankAndLatchAreAssertedAndReleased :=
  ⟨rfl, rfl, rfl, rfl, fun s => ⟨exec_blankOn s, exec_latchOn s, exec_latchOff s, exec_blankOff s⟩⟩

/-- Settles O14: IDLE answers the state itself, DWELL another position. -/
theorem idleHoldsAndDwellReturnsToTheTop : Obligations.IdleHoldsAndDwellReturnsToTheTop := fun s =>
  ⟨exec_idle s, exec_dwell s⟩

/-- Settles O36: results are none of the scanner's own state, and TAKE, which reaches past it, moves only the slot. -/
theorem scannerNeverRaises : Obligations.ScannerNeverRaises := by
  intro p s
  obtain ⟨t, ht⟩ := exec_answers (microOp p) s
  refine ⟨t, ht, ?_⟩
  by_cases hp : p = .take
  · rw [hp, microOp, exec_take] at ht
    cases ht
    split <;> exact ⟨rfl, rfl⟩
  · rw [exec_microOp_sameButScanner hp ht]
    exact ⟨rfl, rfl⟩

end Sys2Proof.Machine
end

section
/-! The operations of the host and the producer beside the scanner (43_row_scan_driver.md rule R148): START and STOP
write the run state, START the position too; every other one writes neither of them and nothing that is shown. -/

namespace Sys2Proof.Machine

/-- `t` is `s` but for the slot, its flag and the views of it, the calls, the boundary software and the draws. -/
def SameButCalls (s t : State) : Prop :=
  t = { s with pnd := t.pnd, rdy := t.rdy, rdyP := t.rdyP, rdyS := t.rdyS, openCount := t.openCount, ack := t.ack,
               results := t.results, held := t.held, draws := t.draws }

theorem SameButCalls.ph_eq {s t : State} (h : SameButCalls s t) : t.ph = s.ph := by rw [h]

theorem answer_sameButCalls (c : Caller) {s t : State} (h : SameButCalls s t) : SameButCalls s (State.answer c t) := by
  cases c with
  | port => exact h
  | write => rw [h]; rfl

theorem present_sameButCalls (f : Frame) (c : Caller) (s : State) : SameButCalls s (State.present f c s) := by
  cases hr : s.rdy with
  | true => rw [present_full f c hr]; rfl
  | false => rw [present_empty f c hr]; exact answer_sameButCalls c rfl

theorem resumeHeld_sameButCalls (k : Nat) (s : State) : SameButCalls s (State.resumeHeld k s) := by
  rcases resumeHeld_cases k s with ⟨e, _⟩ | ⟨h, _, _, e⟩ <;> rw [e]
  · rfl
  · exact answer_sameButCalls h.caller rfl

/-- Of the operations of the host and the producer only START and STOP reach the scanner. -/
theorem exec_external_sameButCalls {i : Instr} {s t : State} (hi : External i) (h : exec i s = .next t) :
    i = .start ∨ i = .stop ∨ SameButCalls s t := by
  rcases external_cases hi with rfl | rfl | ⟨f, rfl⟩ | rfl | rfl | ⟨c, rfl⟩ | rfl | ⟨c, rfl⟩
  · exact .inl rfl
  · exact .inr (.inl rfl)
  · cases h; exact .inr (.inr (present_sameButCalls f .port s))
  · cases h; exact .inr (.inr rfl)
  · cases h; exact .inr (.inr rfl)
  · cases hd : decodeNow c s with
    | error e => rw [exec_devWrite_error hd] at h; cases h; exact .inr (.inr rfl)
    | ok f => rw [exec_devWrite_ok hd] at h; cases h; exact .inr (.inr (present_sameButCalls f .write s))
  · cases h; exact .inr (.inr rfl)
  · cases hd : decodeNow c s with
    | error e => rw [exec_frameDecode_error hd] at h; cases h; exact .inr (.inr rfl)
    | ok f => rw [exec_frameDecode_ok hd] at h; cases h; exact .inr (.inr rfl)

/-- Only START, of the operations of the host and the producer, writes the position. -/
theorem exec_external_ph {i : Instr} {s t : State} (hi : External i) (h : exec i s = .next t) (hstart : i ≠ .start) :
    t.ph = s.ph := by
  rcases exec_external_sameButCalls hi h with rfl | rfl | hsame
  · exact absurd rfl hstart
  · cases h; split <;> rfl
  · exact hsame.ph_eq

/-- Settles O15: START, the operations beside the scanner, and the scanner's position by position. -/
theorem successorOfEachPosition : Obligations.SuccessorOfEachPosition := by
  refine ⟨fun s hrun => ⟨_, exec_start_stopped hrun, rfl⟩, fun i s t h hne => ?writers, fun s t h => ?table⟩
  case writers =>
    by_cases hstart : i = .start
    · exact .inl hstart
    · by_contra hmicro
      exact hne (exec_external_ph (by simpa [External, hstart] using hmicro) h hstart)
  case table =>
    cases hp : s.ph <;> rw [scan_at hp, microOp] at h
    case check =>
      refine ⟨fun hstop => ?_, fun hrun => ?_⟩
      · rw [exec_check_stopping hstop] at h; cases h; exact ⟨rfl, rfl⟩
      · rw [exec_check_elsewhere (by simp [hrun])] at h; cases h; rfl
    case shiftClkl =>
      refine ⟨fun hmore => ?_, fun hlast => ?_⟩
      · rw [exec_shiftClkl_more fun e => by simp [e, lastBit] at hmore] at h; cases h; rfl
      · rw [exec_shiftClkl_last (BitVec.eq_of_toNat_eq hlast)] at h; cases h; rfl
    case idle => cases h; exact hp
    all_goals cases h; rfl

end Sys2Proof.Machine
end

section
/-! A step that is no reset, part by part. -/

namespace Sys2Proof.Machine

/-- Every part of a step but reset, and START right after it, keeps `P`. -/
structure KeptBetweenResets (P : State → Prop) : Prop where
  script : ∀ s es, P s → P { s with script := es }
  timer : ∀ s n, P s → P { s with tmr := n }
  host : ∀ s held rel res, P s → P { s with linesHeld := held, released := rel, hostResult := res }
  micro : ∀ s t, P s → exec (microOp s.ph) s = .next t → P t
  emptyTake : ∀ s, P s → s.ph = .take → P { s with ph := .advance }
  external : ∀ i s t, External i → P s → exec i s = .next t → P t
  resume : ∀ k s, P s → P (State.resumeHeld k s)
  withdraw : ∀ k s, P s → P (State.withdrawHeld k s)
  settle : ∀ y s t, P s → P t → P (State.settleViews y s t)

section
variable {P : State → Prop} {s t : State}

theorem KeptBetweenResets.of_scan (hP : KeptBetweenResets P) (hs : P s) (h : scan s = .next t) : P t :=
  hP.micro s t hs (by rwa [scan_eq] at h)

theorem KeptBetweenResets.of_runWord (hP : KeptBetweenResets P) {w : OpWord} (hw : ∀ i, decode w = .ok i → External i)
    (hs : P s) (h : runWord w s = .next t) : P t := by
  rcases runWord_cases w s with ⟨i, hd, e⟩ | e <;> rw [e] at h
  · rw [requeue_eq] at h
    exact hP.external i _ t (hw i hd) (hP.script s _ hs) h
  · cases h
    exact hs

theorem KeptBetweenResets.of_scanTick (hP : KeptBetweenResets P) {c : Config} (hs : P s) (h : scanTick c s = .next t) :
    P t := by
  rcases scanTick_cases h with ⟨_, rfl⟩ | ⟨_, _, ⟨u, hu, rfl⟩, _⟩ | ⟨htake, _, _, rfl⟩ | ⟨_, _, rfl⟩
  · exact hP.timer s _ hs
  · exact hP.timer u _ (hP.micro s u hs hu)
  · exact hP.timer _ _ (hP.emptyTake s hs htake)
  · exact hP.timer s _ hs

theorem KeptBetweenResets.of_whenPresented (hP : KeptBetweenResets P) {b : Bool} {i : Instr} (hi : External i)
    (hs : P s) (h : whenPresented b i s = .next t) : P t := by
  rcases whenPresented_cases h with ⟨_, e⟩ | ⟨_, rfl⟩
  · exact hP.external i s t hi hs e
  · exact hs

theorem KeptBetweenResets.of_tick (hP : KeptBetweenResets P) {c : Config} {p : Ports} {y : SyncPass} (hs : P s)
    (hr : p.rst = false) (h : tick c p y s = .next t) : P t := by
  obtain ⟨s1, s2, s3, s4, h1, h2, h3, h4, rfl⟩ := tick_parts hr h
  have p1 := hP.of_scanTick hs h1
  have p2 := hP.of_whenPresented external_start p1 h2
  have p3 := hP.of_whenPresented external_stop p2 h3
  have p4 := hP.of_whenPresented (external_deposit _) p3 h4
  exact hP.settle y s s4 hs p4

theorem KeptBetweenResets.of_autonomous (hP : KeptBetweenResets P) (hs : P s) (h : autonomous s = .next t) : P t := by
  unfold autonomous at h
  split at h
  · exact hP.of_scan hs h
  · split at h
    · exact hP.of_scan hs h
    · cases h; exact hP.resume 0 s hs

/-- A step that is no reset keeps what its parts keep. -/
theorem KeptBetweenResets.of_step (hP : KeptBetweenResets P) (hs : P s) (hn : resets s = false) (h : step s = .next t) :
    P t := by
  cases hsc : s.script with
  | nil => exact hP.of_autonomous hs (by rwa [step_script_nil hsc] at h)
  | cons e es =>
    rw [step_script_cons hsc] at h
    have hp := hP.script s es hs
    simp only [resets, hsc] at hn
    cases e with
    | scan => exact hP.of_scan hp h
    | request x f => exact hP.of_runWord (fun _ => decode_x_external) hp h
    | call d c => exact hP.of_runWord (fun _ => decode_d_external) hp h
    | text c => exact hP.of_runWord (fun _ => decode_p_external) hp h
    | resume k => cases h; exact hP.resume k _ hp
    | withdraw k => cases h; exact hP.withdraw k _ hp
    | reset => cases hn
    | tick p y => exact hP.of_tick hp hn h
    | bringUp b =>
      rcases bringUp_cases Config.hardware b { s with script := es } with ⟨k, _, e⟩ | ⟨hb, _, _⟩ | ⟨hb, _, _⟩
      · rw [perform, e] at h; cases h; exact hP.host _ _ _ _ hp
      · simp [hb] at hn
      · simp [hb] at hn
    | release => cases h; unfold releaseAtHalt; split; exacts [hP.host _ _ _ _ hp, hp]

end

end Sys2Proof.Machine
end

section
/-! A halted scanner (43_row_scan_driver.md rule R159): held in IDLE, deaf to START and STOP. -/

namespace Sys2Proof.Machine

/-- `t` is halted and shows what `s` shows: the pins, the row, the Frame. -/
def HaltedShowing (s t : State) : Prop :=
  t.run = .halted ∧ t.ph = .idle ∧ t.data = s.data ∧ t.clk = s.clk ∧ t.a = s.a ∧ t.latch = s.latch ∧
    t.blank = s.blank ∧ t.row = s.row ∧ t.act = s.act

theorem HaltedShowing.run_eq {s t : State} (h : HaltedShowing s t) : t.run = .halted := h.1
theorem HaltedShowing.ph_eq {s t : State} (h : HaltedShowing s t) : t.ph = .idle := h.2.1

theorem HaltedShowing.of_sameButCalls {s t u : State} (h : HaltedShowing s t) (hsame : SameButCalls t u) :
    HaltedShowing s u := by
  rw [hsame]
  exact h

theorem haltedShowing_keptBetweenResets (s : State) : KeptBetweenResets (HaltedShowing s) where
  script _ _ h := h
  timer _ _ h := h
  host _ _ _ _ h := h
  micro t u h e := by
    rw [h.ph_eq, microOp, exec_idle] at e
    cases e
    exact h
  emptyTake t h htake := by simp [h.ph_eq] at htake
  external i t u hi h e := by
    rcases exec_external_sameButCalls hi e with rfl | rfl | hsame
    · rw [exec_start_elsewhere (by simp [h.run_eq])] at e
      cases e
      exact h
    · rw [exec_stop_elsewhere (by simp [h.run_eq])] at e
      cases e
      exact h
    · exact h.of_sameButCalls hsame
  resume k t h := h.of_sameButCalls (resumeHeld_sameButCalls k t)
  withdraw k t h := by rw [withdrawHeld_eq]; exact h
  settle _ _ _ _ h := h

/-- Settles O42: by the invariant a halted scanner is in IDLE, and every part of a step but reset leaves it there. -/
theorem onlyResetLeavesHalted : Obligations.OnlyResetLeavesHalted := by
  intro s t hi hrun hn h
  obtain ⟨_, hidle, _⟩ := hi
  exact (haltedShowing_keptBetweenResets s).of_step
    ⟨hrun, hidle.2 (.inr hrun), rfl, rfl, rfl, rfl, rfl, rfl, rfl⟩ hn h

end Sys2Proof.Machine
end

section
/-! The scan cycle (43_row_scan_driver.md rules R148, R160, R163): CHECK, TAKE and ADVANCE, the 432 steps of the row,
and the six that commit it and return to CHECK. -/

namespace Sys2Proof.Machine

/-- `s` when TAKE has taken the Frame that was pending, if there was one (41_pending_slot.md rule R120). -/
def taken (s : State) : State :=
  { s with act := if s.rdy = true then s.pnd else s.act, rdy := false, rdyP := false, rdyS := false, ph := .advance }

/-- `s` when the 144 bits of the row have been sent. -/
def rowSent (s : State) : State := { s with data := rowBit s 143, clk := false, bitcnt := 0, ph := .blankOn }

/-- `s` when the row has been committed and dwelt on (R153 to R158). -/
def rowShown (s : State) : State := { s with a := s.row, latch := false, blank := false, ph := .check }

/-- `s` one scan cycle later. -/
def cycled (s : State) : State := rowShown (rowSent (advanced (taken s)))

/-! ### One step -/

section
variable {s : State}

theorem scan_check_running (h : s.ph = .check) (hrun : s.run ≠ .stopping) : scan s = .next { s with ph := .take } :=
  (scan_at h).trans (exec_check_elsewhere hrun)

theorem scan_check_stopping (h : s.ph = .check) (hrun : s.run = .stopping) :
    scan s = .next { s with run := .halted, ph := .idle } :=
  (scan_at h).trans (exec_check_stopping hrun)

theorem scan_take_oneClock (h : s.ph = .take) (ho : OneClock s) : scan s = .next (taken s) := by
  obtain ⟨hP, hS⟩ := ho
  rw [scan_at h, microOp]
  cases hr : s.rdy with
  | true => rw [exec_take_full hr]; simp [taken, hr, State.goto, State.drainSlot, State.setRdy]
  | false => rw [exec_take_empty hr]; simp [taken, hr, State.goto, hP, hS]

theorem scan_blankOn (h : s.ph = .blankOn) : scan s = .next { s with blank := true, ph := .select } := scan_at h
theorem scan_select (h : s.ph = .select) : scan s = .next { s with a := s.row, ph := .latchOn } := scan_at h
theorem scan_latchOn (h : s.ph = .latchOn) : scan s = .next { s with latch := true, ph := .latchOff } := scan_at h
theorem scan_latchOff (h : s.ph = .latchOff) : scan s = .next { s with latch := false, ph := .blankOff } := scan_at h
theorem scan_blankOff (h : s.ph = .blankOff) : scan s = .next { s with blank := false, ph := .dwell } := scan_at h
theorem scan_dwell (h : s.ph = .dwell) : scan s = .next { s with ph := .check } := scan_at h

end

/-! ### A whole cycle -/

theorem scanRun_succ_of_scan {s t : State} (h : scan s = .next t) (n : Nat) : scanRun (n + 1) s = scanRun n t := by
  rw [scanRun_succ, h, andThen_next]

/-- CHECK, TAKE and ADVANCE. -/
theorem scanRun_begin {s : State} (hp : s.ph = .check) (hrun : s.run ≠ .stopping) (ho : OneClock s) :
    scanRun 3 s = .next (advanced (taken s)) := by
  have htake : scan { s with ph := .take } = .next (taken s) := scan_take_oneClock rfl ho
  rw [scanRun_succ_of_scan (scan_check_running hp hrun), scanRun_succ_of_scan htake,
    scanRun_succ_of_scan (scan_advance rfl), scanRun]

theorem scanRun_first_pulse {s : State} (hp : s.ph = .shiftData) (hbit : s.bitcnt = 0) :
    scanRun 2 s = .next (bitClocked s 0) := by
  rw [scanRun_succ_of_scan (scan_shiftData hp), scanRun_succ_of_scan (scan_shiftClkh rfl), hbit]
  simp [scanRun, bitClocked, rowBit]

/-- The first pulse of a row raises `CLK` whatever it was, so that the row ends as from `CLK = 0`. -/
theorem scanRun_row {s : State} (hp : s.ph = .shiftData) (hbit : s.bitcnt = 0) :
    scanRun 432 s = .next (rowSent s) := by
  have hstart : AtRowStart { s with clk := false } := ⟨hp, hbit, rfl⟩
  have hpulse : scanRun 2 s = scanRun 2 { s with clk := false } :=
    (scanRun_first_pulse hp hbit).trans (scanRun_first_pulse (s := { s with clk := false }) hp hbit).symm
  obtain ⟨level, hrun⟩ := scanRun_bitDue hstart (n := 143) (by omega)
  obtain ⟨_, _, hsent⟩ := scanRun_bit hstart.clk level (n := 143) (by omega)
  calc scanRun (2 + 430) s
    _ = scanRun (429 + 3) { s with clk := false } := by rw [scanRun_add 2, hpulse, ← scanRun_add]
    _ = .next (rowSent s) := (scanRun_then hrun 3).trans hsent

/-- BLANK_ON, SELECT, LATCH_ON, LATCH_OFF, BLANK_OFF and DWELL. -/
theorem scanRun_commit {s : State} (hp : s.ph = .blankOn) : scanRun 6 s = .next (rowShown s) :=
  (scanRun_succ_of_scan (scan_blankOn hp) 5).trans <| (scanRun_succ_of_scan (scan_select rfl) 4).trans <|
    (scanRun_succ_of_scan (scan_latchOn rfl) 3).trans <| (scanRun_succ_of_scan (scan_latchOff rfl) 2).trans <|
    (scanRun_succ_of_scan (scan_blankOff rfl) 1).trans <| scanRun_succ_of_scan (scan_dwell rfl) 0

theorem scanRun_cycle {s : State} (hp : s.ph = .check) (hrun : s.run ≠ .stopping) (ho : OneClock s) :
    scanRun 441 s = .next (cycled s) :=
  (scanRun_then (scanRun_begin hp hrun ho) 438).trans <|
    (scanRun_then (scanRun_row rfl rfl) 6).trans (scanRun_commit rfl)

/-- Settles O50: the last bit of the row is bit 0 of its byte 17. -/
theorem scanCycleTakesShowsAndReturns : Obligations.ScanCycleTakesShowsAndReturns := by
  intro s hp hrun hP hS f r hf hr
  have hrow : nextRow s.row = BitVec.ofNat 3 r.val := nextRow_eq_ofNat hr
  have hlast : rowBit (advanced (taken s)) 143 = (byteOf f r 17).getLsbD 0 := by
    rw [hf]
    exact rowBit_eq (s := advanced (taken s)) ((nextRow_toNat s.row).trans hr.symm) 17 7
  rw [scanRun_cycle hp (by simp [hrun]) ⟨hP, hS⟩, ← hlast, ← hrow, hf]
  rfl

/-- Running at CHECK with nothing pending, after `k` cycles from reset and START. -/
structure AtCycle (k : Nat) (s : State) : Prop where
  ph : s.ph = .check
  run : s.run = .running
  rdy : s.rdy = false
  oneClock : OneClock s
  act : s.act = Config.hardware.initFrame
  row : s.row.toNat = (7 + k) % 8

/-- Reset leaves row 7 (92 D6), so that the first cycle shows row 0. -/
theorem atCycle_zero : AtCycle 0 { State.reset with run := .running, ph := .check } :=
  ⟨rfl, rfl, rfl, ⟨rfl, rfl⟩, rfl, rfl⟩

theorem AtCycle.next {k : Nat} {s : State} (h : AtCycle k s) : AtCycle (k + 1) (cycled s) where
  ph := rfl
  run := h.run
  rdy := rfl
  oneClock := ⟨rfl, rfl⟩
  act := by
    show (if s.rdy = true then s.pnd else s.act) = _
    rw [h.rdy, if_neg Bool.false_ne_true, h.act]
  row := by
    have hnext : (cycled s).row.toNat = (s.row.toNat + 1) % 8 := nextRow_toNat s.row
    rw [hnext, h.row]
    omega

theorem AtCycle.scanRun_eq {k : Nat} {s : State} (h : AtCycle k s) : scanRun 441 s = .next (cycled s) :=
  scanRun_cycle h.ph (by simp [h.run]) h.oneClock

theorem scanRun_reaches_cycle {s : State} (h : AtCycle 0 s) (k : Nat) :
    ∃ t : State, scanRun (441 * k) s = .next t ∧ AtCycle k t := by
  induction k with
  | zero => exact ⟨s, rfl, h⟩
  | succ k ih =>
    obtain ⟨t, hrun, ht⟩ := ih
    exact ⟨cycled t, by rw [Nat.mul_succ, scanRun_then hrun, ht.scanRun_eq], ht.next⟩

/-- Settles O51: after `k` cycles one more shows the next row. -/
theorem rowsAreShownInOrderFromZero : Obligations.RowsAreShownInOrderFromZero := by
  refine ⟨_, exec_start_stopped rfl, fun k => ?_⟩
  obtain ⟨t, hrun, ht⟩ := scanRun_reaches_cycle atCycle_zero k
  refine ⟨cycled t, by rw [Nat.mul_succ, scanRun_then hrun, ht.scanRun_eq], ?_, rfl, ht.next.act, rfl⟩
  have hrow := ht.next.row
  omega

end Sys2Proof.Machine
end

section
/-! A stop request (43_row_scan_driver.md rules R147, R158, R161): the rest of the cycle, then CHECK halts, and in the
hold of DWELL it does so in the next tick. -/

namespace Sys2Proof.Machine

/-- `s` has halted with its pulses ended, un-blanked, the current row selected (R161). -/
structure HaltedOnRow (s : State) : Prop where
  run : s.run = .halted
  ph : s.ph = .idle
  clk : s.clk = false
  latch : s.latch = false
  blank : s.blank = false
  a : s.a = s.row

/-- After `k` more steps the scanner has halted on its row. -/
def HaltsIn (k : Nat) (s : State) : Prop := ∃ t : State, scanRun k s = .next t ∧ HaltedOnRow t

section
variable {s : State}

theorem haltsIn_succ {t : State} {k : Nat} (h : scan s = .next t) (ht : HaltsIn k t) : HaltsIn (k + 1) s := by
  obtain ⟨u, hrun, hu⟩ := ht
  exact ⟨u, by rw [scanRun_succ_of_scan h, hrun], hu⟩

theorem haltsIn_check (hrun : s.run = .stopping) (hp : s.ph = .check) (hclk : s.clk = false) (hlatch : s.latch = false)
    (hblank : s.blank = false) (ha : s.a = s.row) : HaltsIn 1 s :=
  haltsIn_succ (scan_check_stopping hp hrun) ⟨_, rfl, rfl, rfl, hclk, hlatch, hblank, ha⟩

theorem haltsIn_dwell (hrun : s.run = .stopping) (hp : s.ph = .dwell) (hclk : s.clk = false) (hlatch : s.latch = false)
    (hblank : s.blank = false) (ha : s.a = s.row) : HaltsIn 2 s :=
  haltsIn_succ (scan_dwell hp) (haltsIn_check hrun rfl hclk hlatch hblank ha)

theorem haltsIn_blankOff (hrun : s.run = .stopping) (hp : s.ph = .blankOff) (hclk : s.clk = false)
    (hlatch : s.latch = false) (ha : s.a = s.row) : HaltsIn 3 s :=
  haltsIn_succ (scan_blankOff hp) (haltsIn_dwell hrun rfl hclk hlatch rfl ha)

theorem haltsIn_latchOff (hrun : s.run = .stopping) (hp : s.ph = .latchOff) (hclk : s.clk = false) (ha : s.a = s.row) :
    HaltsIn 4 s :=
  haltsIn_succ (scan_latchOff hp) (haltsIn_blankOff hrun rfl hclk rfl ha)

theorem haltsIn_latchOn (hrun : s.run = .stopping) (hp : s.ph = .latchOn) (hclk : s.clk = false) (ha : s.a = s.row) :
    HaltsIn 5 s :=
  haltsIn_succ (scan_latchOn hp) (haltsIn_latchOff hrun rfl hclk ha)

theorem haltsIn_select (hrun : s.run = .stopping) (hp : s.ph = .select) (hclk : s.clk = false) : HaltsIn 6 s :=
  haltsIn_succ (scan_select hp) (haltsIn_latchOn hrun rfl hclk rfl)

theorem haltsIn_blankOn (hrun : s.run = .stopping) (hp : s.ph = .blankOn) (hclk : s.clk = false) : HaltsIn 7 s :=
  haltsIn_succ (scan_blankOn hp) (haltsIn_select hrun rfl hclk)

/-- With `n` bits of the row left after this one: three steps for each of them. -/
theorem haltsIn_shiftClkl {n : Nat} (hrun : s.run = .stopping) (hp : s.ph = .shiftClkl)
    (hn : s.bitcnt.toNat + n = 143) : HaltsIn (3 * n + 8) s := by
  induction n generalizing s with
  | zero => exact haltsIn_succ (scan_shiftClkl_last hp (BitVec.eq_of_toNat_eq hn)) (haltsIn_blankOn hrun rfl rfl)
  | succ n ih =>
    have hmore : s.bitcnt ≠ lastBit := fun e => by simp [e, lastBit] at hn
    have hnext : (s.bitcnt + 1).toNat + n = 143 := by bv_omega
    exact haltsIn_succ (scan_shiftClkl_more hp hmore) <| haltsIn_succ (scan_shiftData rfl) <|
      haltsIn_succ (scan_shiftClkh rfl) <| ih hrun rfl hnext

theorem haltsIn_shiftClkh {n : Nat} (hrun : s.run = .stopping) (hp : s.ph = .shiftClkh)
    (hn : s.bitcnt.toNat + n = 143) : HaltsIn (3 * n + 9) s :=
  haltsIn_succ (scan_shiftClkh hp) (haltsIn_shiftClkl hrun rfl hn)

theorem haltsIn_shiftData {n : Nat} (hrun : s.run = .stopping) (hp : s.ph = .shiftData)
    (hn : s.bitcnt.toNat + n = 143) : HaltsIn (3 * n + 10) s :=
  haltsIn_succ (scan_shiftData hp) (haltsIn_shiftClkh hrun rfl hn)

theorem haltsIn_advance (hrun : s.run = .stopping) (hp : s.ph = .advance) : HaltsIn 440 s :=
  haltsIn_succ (scan_advance hp) (haltsIn_shiftData (n := 143) hrun rfl (Nat.zero_add 143))

/-- With a Frame pending or without one, no cycle is left half-executed (R147). -/
theorem haltsIn_take (hrun : s.run = .stopping) (hp : s.ph = .take) : HaltsIn 441 s := by
  cases hr : s.rdy with
  | true => exact haltsIn_succ ((scan_at hp).trans (exec_take_full hr)) (haltsIn_advance hrun rfl)
  | false => exact haltsIn_succ ((scan_at hp).trans (exec_take_empty hr)) (haltsIn_advance hrun rfl)

end

/-! ### The pins at a position (70_reset_and_hazards.md rule R252) -/

section
variable {s : State}

theorem clk_eq_false (hi : BlockInv s) (h : s.ph ≠ .shiftClkl) : s.clk = false := by
  obtain ⟨_, _, ⟨hclk, _, _⟩, _⟩ := hi
  simpa [h] using hclk

theorem latch_eq_false (hi : BlockInv s) (h : s.ph ≠ .latchOff) : s.latch = false := by
  obtain ⟨_, _, ⟨_, hlatch, _⟩, _⟩ := hi
  simpa [h] using hlatch

theorem blank_eq_false (hi : BlockInv s) (h : s.ph = .check ∨ s.ph = .dwell) : s.blank = false := by
  obtain ⟨_, _, ⟨_, _, hblank⟩, _⟩ := hi
  rcases h with h | h <;> simpa [h] using hblank

end

/-- Inside a cycle a stop request is followed by the rest of the cycle and by CHECK. -/
theorem exists_haltsIn {s : State} (hi : BlockInv s) (hrun : s.run = .stopping) (hcheck : s.ph ≠ .check) :
    ∃ k ≤ 441, HaltsIn k s := by
  have hclk := clk_eq_false hi
  have hlatch := latch_eq_false hi
  have hblank := blank_eq_false hi
  obtain ⟨⟨hbit, _⟩, hidle, _, ha, _⟩ := hi
  have hleft : s.bitcnt.toNat + (143 - s.bitcnt.toNat) = 143 := by omega
  cases hp : s.ph
  case idle => exact absurd (hidle.1 hp) (by simp [hrun])
  case check => exact absurd hp hcheck
  case take => exact ⟨441, le_rfl, haltsIn_take hrun hp⟩
  case advance => exact ⟨440, by omega, haltsIn_advance hrun hp⟩
  case shiftData => exact ⟨_, by omega, haltsIn_shiftData hrun hp hleft⟩
  case shiftClkh => exact ⟨_, by omega, haltsIn_shiftClkh hrun hp hleft⟩
  case shiftClkl => exact ⟨_, by omega, haltsIn_shiftClkl hrun hp hleft⟩
  all_goals simp only [hp, ne_eq, reduceCtorEq, not_false_eq_true, forall_const] at hclk
  case blankOn => exact ⟨7, by omega, haltsIn_blankOn hrun hp hclk⟩
  case select => exact ⟨6, by omega, haltsIn_select hrun hp hclk⟩
  all_goals have ha : s.a = s.row := ha (by simp [hp])
  case latchOn => exact ⟨5, by omega, haltsIn_latchOn hrun hp hclk ha⟩
  case latchOff => exact ⟨4, by omega, haltsIn_latchOff hrun hp hclk ha⟩
  case blankOff => exact ⟨3, by omega, haltsIn_blankOff hrun hp hclk (hlatch (by simp [hp])) ha⟩
  case dwell => exact ⟨2, by omega, haltsIn_dwell hrun hp hclk (hlatch (by simp [hp])) (hblank (.inr hp)) ha⟩

/-- Settles O52: at CHECK the scanner halts in the next step, elsewhere at the end of the cycle. -/
theorem stopRequestEndsHaltedAndUnblanked : Obligations.StopRequestEndsHaltedAndUnblanked := by
  intro s hi hrun
  by_cases hp : s.ph = .check
  · have hclk := clk_eq_false hi (by simp [hp])
    have hlatch := latch_eq_false hi (by simp [hp])
    have hblank := blank_eq_false hi (.inl hp)
    exact ⟨1, _, by omega, scanRun_succ_of_scan (scan_check_stopping hp hrun) 0, rfl, rfl, hclk, hlatch, hblank,
      fun hne => absurd hp hne, fun _ => rfl⟩
  · obtain ⟨k, hk, t, ht, hhalted⟩ := exists_haltsIn hi hrun hp
    exact ⟨k, t, hk, ht, hhalted.run, hhalted.ph, hhalted.clk, hhalted.latch, hhalted.blank, fun _ => hhalted.a,
      fun h => absurd h hp⟩

/-- With one clock and quiet ports a tick is the scanner's part alone. -/
theorem tick_quiet_oneClock (c : Config) (s : State) : tick c quietPorts SyncPass.oneClock s =
    andThen (scanTick c s) fun t => .next { t with rdyS := t.rdy, rdyP := t.rdy } := by
  unfold tick
  cases scanTick c s <;> simp [quietPorts, andThen, whenPresented_false, settleViews_oneClock]

/-- Settles O57: with a stop pending CHECK is due whatever the timer says. -/
theorem stopEndsTheDwellAtTheNextTick : Obligations.StopEndsTheDwellAtTheNextTick := by
  intro c s ⟨hP, hS⟩ hp hrun
  have hdue : State.due s = true := by simp [State.due, hp, hrun]
  have hmicro : microTick s = .next { s with run := .halted, ph := .idle } := by
    rw [microTick_eq hS, hp, microOp, exec_check_stopping hrun]
  have hscan : scanTick c s = .next { s with run := .halted, ph := .idle, tmr := 0 } := by
    rw [scanTick_due c (by simp [hp]) hdue, hmicro, andThen_next, hp]
    rfl
  rw [quietTicks, tick_quiet_oneClock, hscan, andThen_next, andThen_next, quietTicks]
  simp [hP, hS]

end Sys2Proof.Machine
end

/-! # Proofs for 44_device_interface.md: OPEN and CLOSE (O16), READ (O17), WRITE (O18) -/

section
/-! The calls of the device interface (44_device_interface.md rules R182 to R185). -/

namespace Sys2Proof.Machine

variable {c : List Byte} {f : Frame} {k : Nat}

/-- R105: DECODE raises on the first non-hex character. -/
theorem decodeNow_badDigit (s : State) (hlen : 288 ≤ c.length) (hk : k < 288) (hnone : hexval (charAt c k) = none)
    (hbefore : ∀ j < k, (hexval (charAt c j)).isSome = true) : decodeNow c s = .error (.invalidHexDigit k) := by
  rw [decodeNow_eq, decodePayload_badDigit hlen ((firstNonHex_eq_some_iff hlen).2 ⟨hk, hnone, hbefore⟩)]

/-- R102: DECODE of hex characters gives a Frame with each byte the value of its pair of characters. -/
theorem exists_decodeNow_allHex (s : State) (hlen : 288 ≤ c.length) (hex : AllHex c) :
    ∃ f : Frame, decodeNow c s = .ok f ∧ ∀ (r : Fin 8) (b : Fin 18) (hi lo : Nibble),
      hexval (charAt c (2 * (18 * r.val + b.val))) = some hi →
      hexval (charAt c (2 * (18 * r.val + b.val) + 1)) = some lo → (byteOf f r b).toNat = 16 * hi.toNat + lo.toNat := by
  refine ⟨_, (decodeNow_eq c s).trans (decodePayload_allHex hlen hex), fun r b hi lo hhi hlo => ?_⟩
  rw [byteOf_assemble, nibbleAt_of_hexval hhi, nibbleAt_of_hexval hlo, byteOfNibbles_toNat]

theorem exec_devWrite_empty {s : State} (hf : decodeNow c s = .ok f) (hempty : s.rdy = false) :
    exec (.devWrite c) s =
      .next { s with pnd := f, rdy := true, rdyP := true, rdyS := true, results := .count 288 :: s.results } := by
  rw [exec_devWrite_ok hf, present_empty f .write hempty]
  rfl

theorem exec_devWrite_full {s : State} (hf : decodeNow c s = .ok f) (hfull : s.rdy = true) :
    exec (.devWrite c) s = .next { s with held := s.held ++ [{ frame := f, caller := .write }] } := by
  rw [exec_devWrite_ok hf, present_full f .write hfull]

/-- Settles O18: DECODE raises on a bad character before anything is written; the Frame it gives otherwise fills an empty
slot or waits for a full one. -/
theorem writeDepositsTheDecodedFrame : Obligations.WriteDepositsTheDecodedFrame := by
  intro c s hlen
  refine ⟨?badDigit, ?allHex⟩
  case badDigit =>
    intro k hk hnone hbefore
    exact exec_devWrite_error (decodeNow_badDigit s hlen hk hnone hbefore)
  case allHex =>
    intro hex
    obtain ⟨f, hf, hbytes⟩ := exists_decodeNow_allHex s hlen hex
    exact ⟨f, hbytes, exec_devWrite_empty hf, exec_devWrite_full hf⟩

/-- Settles O16: OPEN is the only one of the two that counts; each returns success. -/
theorem openCountsAndCloseDoesNot : Obligations.OpenCountsAndCloseDoesNot :=
  ⟨fun _ => ⟨rfl, rfl⟩, fun s => ⟨exec_devOpen s, exec_devClose s⟩⟩

/-- Settles O17: the string in `ACK` is the free one drawn at this call. -/
theorem readReturnsTheAcknowledgement : Obligations.ReadReturnsTheAcknowledgement :=
  fun s => ⟨Config.freeBytes s.draws, exec_devRead s⟩

end Sys2Proof.Machine
end

/-! # Proofs for 60_exceptions.md: a call that raises (O21), the owners of the state (O33, O35), a tick with one clock
(O54, O55) -/

section
/-! A call that raises (60_exceptions.md rules R194, R204): the error is its result. -/

namespace Sys2Proof.Machine

/-- Settles O21: both calls raise what DECODE raises, and raising only adds the error to the results. -/
theorem raisingCallWritesNoState : Obligations.RaisingCallWritesNoState :=
  fun _ _ _ h => ⟨exec_devWrite_error h, exec_frameDecode_error h⟩

end Sys2Proof.Machine
end

section
/-! What the operations of the host and the producer can reach (60_exceptions.md rules R204, R205). -/

namespace Sys2Proof.Machine

variable {i : Instr} {s t : State}

/-- Beside what the calls own, the host and the producer reach the run state and the position only. -/
theorem exec_external_sameButRunAndCalls (hi : External i) (h : exec i s = .next t) :
    SameButCalls { s with run := t.run, ph := t.ph } t := by
  rcases exec_external_sameButCalls hi h with rfl | rfl | hsame
  · cases h; split <;> rfl
  · cases h; split <;> rfl
  · rw [hsame]; rfl

/-- Of the operations of the host and the producer only START and STOP write the run state. -/
theorem exec_external_run (hi : External i) (h : exec i s = .next t) (hstart : i ≠ .start) (hstop : i ≠ .stop) :
    t.run = s.run := by
  rcases exec_external_sameButCalls hi h with rfl | rfl | hsame
  · exact absurd rfl hstart
  · exact absurd rfl hstop
  · rw [hsame]

/-- Without a Frame to deposit, or with the slot full, the host and the producer leave the slot alone. -/
theorem exec_external_slot_kept (hi : External i) (h : exec i s = .next t)
    (hn : s.rdy = true ∨ depositOperand i s = none) : t.pnd = s.pnd ∧ t.rdy = s.rdy := by
  have hin : (if s.rdy then none else depositOperand i s) = none := by
    rcases hn with hr | ho
    · rw [if_pos hr]
    · rw [ho, ite_self]
  have hm := exec_external_slotMove hi h
  rw [hin] at hm
  cases hm with
  | keep _ hpnd hrdy => exact ⟨hpnd, hrdy⟩

/-- Settles O35: what is shown is neither the calls' nor the run state's, and the slot moves by a deposit only. -/
theorem producerAndHostNeverTouchTheDisplay : Obligations.ProducerAndHostNeverTouchTheDisplay := by
  intro i s t hi h
  have hph := exec_external_ph hi h
  have hrun := exec_external_run hi h
  have hslot : s.rdy = true ∨ depositOperand i s = none →
      (∀ (r : Fin 8) (b : Fin 18), byteOf t.pnd r b = byteOf s.pnd r b) ∧ t.rdy = s.rdy := fun hn => by
    obtain ⟨hpnd, hrdy⟩ := exec_external_slot_kept hi h hn
    exact ⟨fun _ _ => by rw [hpnd], hrdy⟩
  refine ⟨fun r b => ?_, ?_, ?_, ?_, ?_, ?_, ?_, ?_, hph, hrun, hslot⟩
  all_goals rw [exec_external_sameButRunAndCalls hi h]

end Sys2Proof.Machine
end

section
/-! The writers of each piece of state (10_state.md rules R10, R24, 60_exceptions.md rule R205), by owner. -/

namespace Sys2Proof.Machine

variable {i : Instr} {s t : State}

/-- Beside what the scanner owns, a micro-operation reaches `ACT` and the flag with its views only. -/
theorem exec_microOp_sameButScannerAndTake {p : Phase} (h : exec (microOp p) s = .next t) :
    SameButScanner { s with act := t.act, rdy := t.rdy, rdyP := t.rdyP, rdyS := t.rdyS } t := by
  by_cases hp : p = .take
  · rw [hp, microOp, exec_take] at h
    cases h
    split <;> rfl
  · rw [exec_microOp_sameButScanner hp h]
    rfl

theorem external_or_microOp (i : Instr) : External i ∨ ∃ p, i = microOp p := by
  by_cases hi : External i
  · exact .inl hi
  · exact .inr (by simpa [External] using hi)

/-- The pins, the row and the bit counter: no operation of the host or the producer writes one. -/
theorem exec_display_writers (h : exec i s = .next t) :
    (t.data ≠ s.data → i = .shiftData) ∧ (t.clk ≠ s.clk → i = .shiftClkh ∨ i = .shiftClkl) ∧
      (t.a ≠ s.a → i = .select) ∧ (t.latch ≠ s.latch → i = .latchOn ∨ i = .latchOff) ∧
      (t.blank ≠ s.blank → i = .blankOn ∨ i = .blankOff) ∧ (t.row ≠ s.row → i = .advance) ∧
      (t.bitcnt ≠ s.bitcnt → i = .advance ∨ i = .shiftClkl) := by
  rcases external_or_microOp i with hi | ⟨p, rfl⟩
  · rw [exec_external_sameButRunAndCalls hi h]
    simp
  · cases p
    case check | take | shiftClkl => cases h; split <;> simp [microOp]
    all_goals cases h; simp [microOp]

/-- What an instruction can do to the frame stores: leave them alone, take the Frame of a full slot, fill an empty one. -/
theorem exec_slot_cases (h : exec i s = .next t) :
    (t.act = s.act ∧ t.pnd = s.pnd ∧ t.rdy = s.rdy) ∨ (i = .take ∧ s.rdy = true ∧ t.pnd = s.pnd) ∨
      (s.rdy = false ∧ depositOperand i s = some t.pnd ∧ t.act = s.act) := by
  rcases external_or_microOp i with hi | ⟨p, rfl⟩
  · have hm := exec_external_slotMove hi h
    generalize hin : (if s.rdy then none else depositOperand i s) = o at hm
    cases hm with
    | keep hact hpnd hrdy => exact .inl ⟨hact, hpnd, hrdy⟩
    | fill hr hact hpnd _ => exact .inr (.inr ⟨hr, by simpa [hr, hpnd] using hin, hact⟩)
  · have hpnd : t.pnd = s.pnd := by rw [exec_microOp_sameButScannerAndTake h]
    have hm := exec_microOp_slotMove h
    generalize hout : (if p = .take ∧ s.rdy = true then some s.pnd else none) = o at hm
    cases hm with
    | keep hact _ hrdy => exact .inl ⟨hact, hpnd, hrdy⟩
    | drain hr _ _ =>
      have hp : p = .take := by by_contra hp; simp [hp] at hout
      exact .inr (.inl ⟨by rw [hp]; rfl, hr, hpnd⟩)

/-- The frame stores and the flag: the writers are TAKE of a full slot and a deposit into an empty one. -/
theorem exec_slot_writers (h : exec i s = .next t) :
    (t.act ≠ s.act → i = .take ∧ s.rdy = true) ∧
      (t.pnd ≠ s.pnd → s.rdy = false ∧ depositOperand i s = some t.pnd) ∧
      (t.rdy ≠ s.rdy → (i = .take ∧ s.rdy = true) ∨ (s.rdy = false ∧ (depositOperand i s).isSome = true)) := by
  rcases exec_slot_cases h with ⟨hact, hpnd, hrdy⟩ | ⟨hi, hr, hpnd⟩ | ⟨hr, hf, hact⟩
  · simp [hact, hpnd, hrdy]
  · simp [hi, hr, hpnd]
  · simp [hr, hf, hact]

/-- The run state: START, STOP and CHECK, each in its own run state (43_row_scan_driver.md rules R146, R147, R150). -/
theorem exec_run_writers (h : exec i s = .next t) (hne : t.run ≠ s.run) :
    (i = .start ∧ s.run = .stopped ∧ t.run = .running) ∨ (i = .stop ∧ s.run = .running ∧ t.run = .stopping) ∨
      (i = .check ∧ s.run = .stopping ∧ t.run = .halted) := by
  rcases external_or_microOp i with hi | ⟨p, rfl⟩
  · rcases exec_external_sameButCalls hi h with rfl | rfl | hsame
    · by_cases hr : s.run = .stopped
      · rw [exec_start_stopped hr] at h; cases h; exact .inl ⟨rfl, hr, rfl⟩
      · rw [exec_start_elsewhere hr] at h; cases h; exact absurd rfl hne
    · by_cases hr : s.run = .running
      · rw [exec_stop_running hr] at h; cases h; exact .inr (.inl ⟨rfl, hr, rfl⟩)
      · rw [exec_stop_elsewhere hr] at h; cases h; exact absurd rfl hne
    · exact absurd (by rw [hsame]) hne
  · cases p
    case check =>
      by_cases hr : s.run = .stopping
      · rw [microOp, exec_check_stopping hr] at h; cases h; exact .inr (.inr ⟨rfl, hr, rfl⟩)
      · rw [microOp, exec_check_elsewhere hr] at h; cases h; exact absurd rfl hne
    case take | shiftClkl => cases h; split at hne <;> exact absurd rfl hne
    all_goals cases h; exact absurd rfl hne

theorem exec_ph_writers (h : exec i s = .next t) (hne : t.ph ≠ s.ph) : i = .start ∨ ∃ p, i = microOp p := by
  rcases external_or_microOp i with hi | hmicro
  · by_contra hn
    exact hne (exec_external_ph hi h fun hstart => hn (.inl hstart))
  · exact .inr hmicro

/-- The boundary software's state and the calls it waits for: no micro-operation writes either. -/
theorem exec_call_writers (h : exec i s = .next t) :
    (t.openCount ≠ s.openCount → i = .devOpen) ∧ (t.ack ≠ s.ack → i = .devRead) ∧
      (t.results ≠ s.results → i = .devOpen ∨ i = .devRead ∨ i = .devClose ∨ ∃ c, i = .devWrite c ∨ i = .frameDecode c) ∧
      (t.held ≠ s.held → s.rdy = true ∧ (depositOperand i s).isSome = true) := by
  rcases external_or_microOp i with hi | ⟨p, rfl⟩
  · rcases external_cases hi with rfl | rfl | ⟨f, rfl⟩ | rfl | rfl | ⟨c, rfl⟩ | rfl | ⟨c, rfl⟩
    · cases h; split <;> simp
    · cases h; split <;> simp
    · cases hr : s.rdy
      · rw [exec_deposit_empty f hr] at h; cases h; simp
      · rw [exec_deposit_full f hr] at h; cases h; simp [depositOperand]
    · cases h; simp
    · cases h; simp
    · cases hd : decodeNow c s with
      | error e => rw [exec_devWrite_error hd] at h; cases h; simp
      | ok f =>
        cases hr : s.rdy
        · rw [exec_devWrite_empty hd hr] at h; cases h; simp
        · rw [exec_devWrite_full hd hr] at h; cases h; simp [depositOperand, hd, Except.toOption]
    · cases h; simp
    · cases hd : decodeNow c s with
      | error e => rw [exec_frameDecode_error hd] at h; cases h; simp
      | ok f => rw [exec_frameDecode_ok hd] at h; cases h; simp
  · rw [exec_microOp_sameButScannerAndTake h]
    simp

/-- The timer, the host's lines, its result and the script are no instruction's. -/
theorem exec_others_kept (h : exec i s = .next t) : t.tmr = s.tmr ∧ t.linesHeld = s.linesHeld ∧
    t.released = s.released ∧ t.hostResult = s.hostResult ∧ t.script = s.script := by
  rcases external_or_microOp i with hi | ⟨p, rfl⟩
  · rw [exec_external_sameButRunAndCalls hi h]
    exact ⟨rfl, rfl, rfl, rfl, rfl⟩
  · rw [exec_microOp_sameButScannerAndTake h]
    exact ⟨rfl, rfl, rfl, rfl, rfl⟩

/-- Settles O33, owner by owner. -/
theorem eachPieceOfStateHasItsOwnWriters : Obligations.EachPieceOfStateHasItsOwnWriters := by
  intro i s t h
  obtain ⟨hdata, hclk, ha, hlatch, hblank, hrow, hbitcnt⟩ := exec_display_writers h
  obtain ⟨hact, hpnd, hrdy⟩ := exec_slot_writers h
  obtain ⟨hopen, hack, hresults, hheld⟩ := exec_call_writers h
  exact ⟨hdata, hclk, ha, hlatch, hblank, hrow, hbitcnt, hact, hpnd, hrdy, exec_run_writers h, hopen, hack,
    exec_ph_writers h, hresults, hheld, exec_others_kept h⟩

end Sys2Proof.Machine
end

section
/-! A tick with one clock (60_exceptions.md rules R200, R201): the scanner's part, START, STOP and the DEPOSIT one after
another. -/

namespace Sys2Proof.Machine

/-- With one clock a request acts as it does untimed, whatever the hold timer holds. -/
theorem whenPresented_oneClock (b : Bool) (i : Instr) {s : State} (n : Nat) (ho : OneClock s) : ∃ t : State,
    whenPresented b i s = .next t ∧ whenPresented b i { s with tmr := n } = .next { t with tmr := n } ∧ OneClock t := by
  cases b with
  | false => exact ⟨s, rfl, rfl, ho⟩
  | true =>
    obtain ⟨t, ht⟩ := exec_answers i s
    exact ⟨t, ht, exec_timer n ht, exec_oneClock ht ho⟩

/-- With one clock there is nothing to settle. -/
theorem settleViews_of_oneClock (old : State) {s : State} (ho : OneClock s) :
    State.settleViews SyncPass.oneClock old s = s := by
  obtain ⟨hP, hS⟩ := ho
  cases s
  cases hP
  cases hS
  rfl

/-- `dep_ready` is the flag's complement (30_encoding.md rule R90). -/
theorem depReady_of_oneClock {s : State} (ho : OneClock s) : s.depReady = !s.rdy := congrArg not ho.1

/-- Settles O54: each part of the tick is the untimed one, but for the timer, and keeps the views with the flag. -/
theorem tickIsAnInterleavingOfUntimedSteps : Obligations.TickIsAnInterleavingOfUntimedSteps := by
  intro c p s ho hr
  obtain ⟨s1, n, e1, t1, o1⟩ := scanTick_oneClock c ho
  obtain ⟨s2, e2, t2, o2⟩ := whenPresented_oneClock (p.xreq.getLsbD 0) .start n o1
  obtain ⟨s3, e3, t3, o3⟩ := whenPresented_oneClock (p.xreq.getLsbD 1) .stop n o2
  obtain ⟨s4, e4, t4, o4⟩ :=
    whenPresented_oneClock (p.xreq.getLsbD 2 && !s.rdy) (.deposit (unpackFrame p.depFrame)) n o3
  refine ⟨{ s4 with tmr := n }, s4, ?_, ?_, rfl⟩
  · simp only [tick, hr, Bool.false_eq_true, if_false, t1, t2, t3, depReady_of_oneClock ho, t4, andThen_next]
    exact congrArg _ (settleViews_of_oneClock s (s := { s4 with tmr := n }) o4)
  · simp only [whenPresented] at e2 e3 e4
    simp only [e1, e2, e3, andThen_next]
    simpa using e4

/-- A micro-operation that is due, with its hold. -/
theorem scanTick_of_scan (c : Config) {s t : State} (ho : OneClock s) (hp : s.ph ≠ .idle) (hd : s.tmr = 0)
    (h : scan s = .next t) : scanTick c s = .next { t with tmr := hold c s.ph - 1 } := by
  rw [scanTick_due c hp (by simp [State.due, hd]), microTick_eq ho.2, ← scan_eq, h]
  rfl

/-- A tick in which a DEPOSIT alone is presented. -/
theorem tick_deposit_oneClock (c : Config) (w : BitVec 1152) {s : State} (ho : OneClock s) :
    tick c { rst := false, xreq := 0b100, depFrame := w } SyncPass.oneClock s =
      andThen (scanTick c s) fun t => andThen (whenPresented (!s.rdy) (.deposit (unpackFrame w)) t) fun u =>
        .next { u with rdyS := u.rdy, rdyP := u.rdy } := by
  rw [← depReady_of_oneClock ho]
  unfold tick
  cases scanTick c s <;> simp [andThen, whenPresented_false, settleViews_oneClock]

/-- Settles O55: `dep_ready` is 0 in the tick of the TAKE and 1 in the next, that of ADVANCE. -/
theorem depositInTheTickOfATakeWaitsOneTick : Obligations.DepositInTheTickOfATakeWaitsOneTick := by
  intro c w s ho hr hp ht hh
  have hact : (taken s).act = s.pnd := if_pos hr
  have hticked : tick c { rst := false, xreq := 0b100, depFrame := w } SyncPass.oneClock s =
      .next { taken s with tmr := 0 } := by
    rw [tick_deposit_oneClock c w ho, hr, scanTick_of_scan c ho (by simp [hp]) ht (scan_take_oneClock hp ho), hp]
    rfl
  have hnext : tick c { rst := false, xreq := 0b100, depFrame := w } SyncPass.oneClock { taken s with tmr := 0 } =
      .next (State.fillSlot (unpackFrame w) (advanced { taken s with tmr := 0 })) := by
    rw [tick_deposit_oneClock c w ⟨rfl, rfl⟩, scanTick_of_scan c ⟨rfl, rfl⟩ (by simp [taken]) rfl (scan_advance rfl)]
    rfl
  exact ⟨_, _, hticked, rfl, hact, rfl, hh, hnext, rfl, rfl, hact, hh⟩

end Sys2Proof.Machine
end

/-! # Proofs for 70_reset_and_hazards.md: reset (O1, O2), the invariant of the block (O38, O39), the row on display (O40,
O41), the Frame on display (O45), holds and the length of a cycle in ticks (O56, O58), the host's lines (O60) -/

section
/-! Reset (70_reset_and_hazards.md rules R220 to R222): what it leaves, and that every step that resets leaves it. -/

namespace Sys2Proof.Machine

/-- Byte 0 of row `r` of the test pattern is `1 << r`, every other byte is 0 (10_state.md rule R13). -/
theorem byteOf_initFrame_toNat (r : Fin 8) (b : Fin 18) :
    (byteOf Config.hardware.initFrame r b).toNat = if b.val = 0 then 2 ^ r.val else 0 := by
  have hbyte : byteOf Config.hardware.initFrame r b = if b.val = 0 then BitVec.ofNat 8 (2 ^ r.val) else 0 :=
    byteOf_ofFn (fun r b => if b.val = 0 then BitVec.ofNat 8 (2 ^ r.val) else 0) r b
  have hlt : 2 ^ r.val < 2 ^ 8 := Nat.pow_lt_pow_right (by omega) r.isLt
  rw [hbyte]
  split
  · rw [BitVec.toNat_ofNat, Nat.mod_eq_of_lt hlt]
  · rfl

/-- Settles O1: the pattern byte by byte, everything else as it is written. -/
theorem resetStateHoldsTheSpecsValues : Obligations.ResetStateHoldsTheSpecsValues :=
  ⟨byteOf_initFrame_toNat, rfl, rfl, rfl, rfl, rfl, rfl, rfl, rfl, rfl, rfl, rfl, rfl, rfl, rfl⟩

/-- A tick with `rst = 1` is a reset, whatever else is presented (R220). -/
theorem tick_rst (c : Config) {p : Ports} (hr : p.rst = true) (y : SyncPass) (s : State) :
    tick c p y s = .next (State.resetBlock c s) := by
  rw [tick, if_pos hr]

/-- Settles O2: the event and the tick perform the same reset. -/
theorem resetReloadsTheBlockFromAnyState : Obligations.ResetReloadsTheBlockFromAnyState := by
  rintro s es e (rfl | ⟨x, f, y, rfl⟩) hsc
  · rw [step_script_cons hsc]
    rfl
  · rw [step_script_cons hsc, perform, tick_rst _ rfl]
    rfl

/-- The block as a reset leaves it, or as a START right after the reset does (R226). -/
structure AfterReset (s : State) : Prop where
  act : s.act = Config.hardware.initFrame
  rdy : s.rdy = false
  oneClock : OneClock s
  bitcnt : s.bitcnt = 0
  clk : s.clk = false
  latch : s.latch = false
  blank : s.blank = false
  position : (s.ph = .idle ∧ s.run = .stopped) ∨ (s.ph = .check ∧ s.run = .running)

theorem afterReset_reset (es : List Event) : AfterReset { State.reset with script := es } :=
  ⟨rfl, rfl, ⟨rfl, rfl⟩, rfl, rfl, rfl, rfl, .inl ⟨rfl, rfl⟩⟩

theorem afterReset_resetBlock (s : State) : AfterReset (State.resetBlock Config.hardware s) :=
  ⟨rfl, rfl, ⟨rfl, rfl⟩, rfl, rfl, rfl, rfl, .inl ⟨rfl, rfl⟩⟩

theorem bringUp_afterReset {b : BringUp} {s t : State} (hb : b.refused = none)
    (h : bringUp Config.hardware b s = .next t) : AfterReset t := by
  rcases bringUp_cases Config.hardware b s with ⟨k, hk, _⟩ | ⟨_, _, e⟩ | ⟨_, _, e⟩
  · simp [hb] at hk
  · rw [e] at h
    cases h
    exact ⟨rfl, rfl, ⟨rfl, rfl⟩, rfl, rfl, rfl, rfl, .inl ⟨rfl, rfl⟩⟩
  · rw [e] at h
    cases h
    exact ⟨rfl, rfl, ⟨rfl, rfl⟩, rfl, rfl, rfl, rfl, .inr ⟨rfl, rfl⟩⟩

/-- The steps that reset are the event, a tick with `rst = 1` and a bring-up whose lines are all acquired. -/
theorem step_afterReset {s t : State} (hn : resets s = true) (h : step s = .next t) : AfterReset t := by
  cases hsc : s.script with
  | nil => simp [resets, hsc] at hn
  | cons e es =>
    rw [step_script_cons hsc] at h
    simp only [resets, hsc] at hn
    cases e
    case reset => cases h; exact afterReset_resetBlock _
    case tick p y => rw [perform, tick_rst _ hn] at h; cases h; exact afterReset_resetBlock _
    case bringUp b => exact bringUp_afterReset (by simpa using hn) h
    all_goals cases hn

end Sys2Proof.Machine
end

section
/-! The invariant of the block (70_reset_and_hazards.md rules R250 to R252, R255, 10_state.md rule R28). -/

namespace Sys2Proof.Machine

/-- What the invariant says of the scanner: R250, R251, R252 and the first half of R255. -/
def ScanInv (s : State) : Prop := RangeInv s ∧ IdleInv s ∧ PinInv s ∧ SelectInv s

theorem blockInv_iff {s : State} : BlockInv s ↔ ScanInv s ∧ ViewInv s := by
  simp only [BlockInv, ScanInv, and_assoc]

/-- Clause by clause: the bit counter, the run state, the pins and the row-select lines at each position. -/
theorem scanInv_iff {s : State} : ScanInv s ↔
    s.bitcnt.toNat < 144 ∧ (¬ (s.ph = .shiftData ∨ s.ph = .shiftClkh ∨ s.ph = .shiftClkl) → s.bitcnt = 0) ∧
      (s.ph = .idle ↔ s.run = .stopped ∨ s.run = .halted) ∧ (s.clk = true ↔ s.ph = .shiftClkl) ∧
      (s.latch = true ↔ s.ph = .latchOff) ∧
      (s.blank = true ↔ s.ph = .select ∨ s.ph = .latchOn ∨ s.ph = .latchOff ∨ s.ph = .blankOff) ∧
      (s.ph = .latchOn ∨ s.ph = .latchOff ∨ s.ph = .blankOff ∨ s.ph = .dwell → s.a = s.row) := by
  simp only [ScanInv, RangeInv, InSerializer, IdleInv, PinInv, SelectInv, and_assoc]

theorem AfterReset.scanInv {s : State} (h : AfterReset s) : ScanInv s := by
  obtain ⟨_, _, _, hbit, hclk, hlatch, hblank, ⟨hp, hrun⟩ | ⟨hp, hrun⟩⟩ := h
  · simp [scanInv_iff, hbit, hclk, hlatch, hblank, hp, hrun]
  · simp [scanInv_iff, hbit, hclk, hlatch, hblank, hp, hrun]

theorem AfterReset.blockInv {s : State} (h : AfterReset s) : BlockInv s :=
  blockInv_iff.2 ⟨h.scanInv, viewInv_of_oneClock h.oneClock⟩

/-- Settles O38. -/
theorem invariantHoldsAtReset : Obligations.InvariantHoldsAtReset := (afterReset_reset []).blockInv

theorem ScanInv.of_sameButCalls {s t : State} (h : ScanInv s) (hsame : SameButCalls s t) : ScanInv t := by
  rw [hsame]
  exact h

/-- From Stopped, hence from IDLE, START goes to CHECK: in both positions every pin rests. -/
theorem exec_start_keeps_scanInv {s t : State} (hi : ScanInv s) (h : exec .start s = .next t) : ScanInv t := by
  by_cases hrun : s.run = .stopped
  · rw [exec_start_stopped hrun] at h
    cases h
    obtain ⟨_, hbit, hidle, hclk, hlatch, hblank, _⟩ := scanInv_iff.1 hi
    have hp : s.ph = .idle := hidle.2 (.inl hrun)
    simp only [hp, reduceCtorEq, or_self, not_false_eq_true, forall_const, iff_false, Bool.not_eq_true]
      at hbit hclk hlatch hblank
    simp [scanInv_iff, hbit, hclk, hlatch, hblank]
  · rw [exec_start_elsewhere hrun] at h
    cases h
    exact hi

theorem exec_stop_keeps_scanInv {s t : State} (hi : ScanInv s) (h : exec .stop s = .next t) : ScanInv t := by
  by_cases hrun : s.run = .running
  · rw [exec_stop_running hrun] at h
    cases h
    obtain ⟨hrange, hidle, hpins, hselect⟩ := hi
    exact ⟨hrange, by simpa [IdleInv, hrun] using hidle, hpins, hselect⟩
  · rw [exec_stop_elsewhere hrun] at h
    cases h
    exact hi

theorem exec_external_keeps_scanInv {i : Instr} {s t : State} (hx : External i) (hi : ScanInv s)
    (h : exec i s = .next t) : ScanInv t := by
  rcases exec_external_sameButCalls hx h with rfl | rfl | hsame
  · exact exec_start_keeps_scanInv hi h
  · exact exec_stop_keeps_scanInv hi h
  · exact hi.of_sameButCalls hsame

/-- TAKE goes on to ADVANCE, whatever it finds: the pins rest in both positions. -/
theorem ScanInv.take_to_advance {s : State} (hi : ScanInv s) (hp : s.ph = .take) : ScanInv { s with ph := .advance } := by
  obtain ⟨_, hbit, hidle, hclk, hlatch, hblank, _⟩ := scanInv_iff.1 hi
  simp only [hp, reduceCtorEq, or_self, not_false_eq_true, forall_const, false_iff, not_or, iff_false,
    Bool.not_eq_true] at hbit hidle hclk hlatch hblank
  simp [scanInv_iff, hbit, hidle, hclk, hlatch, hblank]

/-- Each micro-operation leaves the pins and the counter as its successor's position wants them. -/
theorem exec_microOp_keeps_scanInv {s t : State} (hi : ScanInv s) (h : exec (microOp s.ph) s = .next t) : ScanInv t := by
  obtain ⟨hcell, hbit, hidle, hclk, hlatch, hblank, ha⟩ := scanInv_iff.1 hi
  cases hp : s.ph <;> rw [hp, microOp] at h <;>
    simp only [hp, reduceCtorEq, or_self, or_true, or_false, not_true_eq_false, not_false_eq_true, forall_const,
      IsEmpty.forall_iff, true_iff, false_iff, iff_true, iff_false, not_or, Bool.not_eq_true]
      at hbit hidle hclk hlatch hblank ha
  case idle => cases h; exact hi
  case check =>
    by_cases hrun : s.run = .stopping
    · rw [exec_check_stopping hrun] at h
      cases h
      simp [scanInv_iff, hbit, hclk, hlatch, hblank]
    · rw [exec_check_elsewhere hrun] at h
      cases h
      simp [scanInv_iff, hbit, hidle, hclk, hlatch, hblank]
  case take =>
    rw [exec_take] at h
    cases h
    split <;> exact hi.take_to_advance hp
  case shiftClkl =>
    by_cases hlast : s.bitcnt = lastBit
    · rw [exec_shiftClkl_last hlast] at h
      cases h
      simp [scanInv_iff, hidle, hlatch, hblank]
    · have hne : s.bitcnt.toNat ≠ 143 := fun e => hlast (BitVec.eq_of_toNat_eq e)
      have hnext : (s.bitcnt.toNat + 1) % 256 < 144 := by omega
      rw [exec_shiftClkl_more hlast] at h
      cases h
      simp [scanInv_iff, hnext, hidle, hlatch, hblank]
  all_goals
    cases h
    simp [scanInv_iff, hcell, hbit, hidle, hclk, hlatch, hblank, ha, selectCode]

theorem scanInv_keptBetweenResets : KeptBetweenResets ScanInv where
  script _ _ hi := hi
  timer _ _ hi := hi
  host _ _ _ _ hi := hi
  micro _ _ hi h := exec_microOp_keeps_scanInv hi h
  emptyTake _ hi hp := hi.take_to_advance hp
  external _ _ _ hx hi h := exec_external_keeps_scanInv hx hi h
  resume k s hi := hi.of_sameButCalls (resumeHeld_sameButCalls k s)
  withdraw k s hi := by rw [withdrawHeld_eq]; exact hi
  settle _ _ _ _ hi := hi

/-- Settles O39: a reset brings the invariant about, and every part of another step keeps it. -/
theorem invariantIsKeptByEveryStep : Obligations.InvariantIsKeptByEveryStep := by
  intro s t hi h
  obtain ⟨hscan, hview⟩ := blockInv_iff.1 hi
  cases hn : resets s with
  | true => exact (step_afterReset hn h).blockInv
  | false => exact blockInv_iff.2 ⟨scanInv_keptBetweenResets.of_step hscan hn h, step_keeps_viewInv hview h⟩

end Sys2Proof.Machine
end

section
/-! What the display sees of one step (70_reset_and_hazards.md rules R233, R255): nothing, or the micro-operation at the
scanner's position, once. -/

namespace Sys2Proof.Machine

/-- The pins and the row stay, and the position too, but for a START, which goes to CHECK. -/
def SameShown (s t : State) : Prop :=
  t.data = s.data ∧ t.clk = s.clk ∧ t.a = s.a ∧ t.latch = s.latch ∧ t.blank = s.blank ∧ t.row = s.row ∧
    (t.ph = s.ph ∨ t.ph = .check)

theorem sameShown_refl (s : State) : SameShown s s := ⟨rfl, rfl, rfl, rfl, rfl, rfl, .inl rfl⟩

theorem SameShown.latch_eq {s t : State} (h : SameShown s t) : t.latch = s.latch := by
  obtain ⟨_, _, _, hlatch, _⟩ := h
  exact hlatch

theorem SameShown.trans {s t u : State} (h : SameShown s t) (h' : SameShown t u) : SameShown s u := by
  obtain ⟨hdata, hclk, ha, hlatch, hblank, hrow, hph⟩ := h
  obtain ⟨hdata', hclk', ha', hlatch', hblank', hrow', hph'⟩ := h'
  refine ⟨hdata'.trans hdata, hclk'.trans hclk, ha'.trans ha, hlatch'.trans hlatch, hblank'.trans hblank,
    hrow'.trans hrow, ?_⟩
  rcases hph' with e | e
  · rw [e]; exact hph
  · exact .inr e

theorem SameButCalls.sameShown {s t : State} (h : SameButCalls s t) : SameShown s t := by
  rw [h]
  exact sameShown_refl s

theorem exec_external_sameShown {i : Instr} {s t : State} (hi : External i) (h : exec i s = .next t) :
    SameShown s t := by
  rcases exec_external_sameButCalls hi h with rfl | rfl | hsame
  · cases h
    split
    · exact ⟨rfl, rfl, rfl, rfl, rfl, rfl, .inr rfl⟩
    · exact sameShown_refl s
  · cases h
    split <;> exact sameShown_refl s
  · exact hsame.sameShown

theorem runWord_sameShown {w : OpWord} {s t : State} (hw : ∀ i, decode w = .ok i → External i)
    (h : runWord w s = .next t) : SameShown s t := by
  rcases runWord_cases w s with ⟨i, hd, e⟩ | e <;> rw [e] at h
  · rw [requeue_eq] at h
    exact exec_external_sameShown (s := { s with script := (requeue w s).script }) (hw i hd) h
  · cases h
    exact sameShown_refl s

theorem whenPresented_sameShown {b : Bool} {i : Instr} {s t : State} (hi : External i)
    (h : whenPresented b i s = .next t) : SameShown s t := by
  rcases whenPresented_cases h with ⟨_, e⟩ | ⟨_, rfl⟩
  · exact exec_external_sameShown hi e
  · exact sameShown_refl _

/-- At most one micro-operation executes from `s` to `t`, the one at the scanner's position; nothing else is shown. -/
def OneMove (s t : State) : Prop :=
  SameShown s t ∨ ∃ u : State, exec (microOp s.ph) s = .next u ∧ SameShown u t

theorem OneMove.then_shown {s t u : State} (h : OneMove s t) (h' : SameShown t u) : OneMove s u := by
  rcases h with h | ⟨v, hv, h⟩
  · exact .inl (h.trans h')
  · exact .inr ⟨v, hv, h.trans h'⟩

theorem scan_oneMove {s t : State} (h : scan s = .next t) : OneMove s t :=
  .inr ⟨t, by rwa [scan_eq] at h, sameShown_refl t⟩

/-- A TAKE whose view of the flag lags shows what TAKE shows: `ACT` and the slot are no pins. -/
theorem scanTick_oneMove {c : Config} {s t : State} (h : scanTick c s = .next t) : OneMove s t := by
  rcases scanTick_cases h with ⟨_, rfl⟩ | ⟨_, _, ⟨u, hu, rfl⟩, _⟩ | ⟨hp, _, _, rfl⟩ | ⟨_, _, rfl⟩
  · exact .inl (sameShown_refl s)
  · exact .inr ⟨u, hu, sameShown_refl u⟩
  · refine .inr ⟨_, by rw [hp, microOp, exec_take], ?_⟩
    split <;> exact sameShown_refl { s with ph := .advance }
  · exact .inl (sameShown_refl s)

theorem tick_oneMove {c : Config} {p : Ports} {y : SyncPass} {s t : State} (hr : p.rst = false)
    (h : tick c p y s = .next t) : OneMove s t := by
  obtain ⟨s1, s2, s3, s4, h1, h2, h3, h4, rfl⟩ := tick_parts hr h
  have hrequests : SameShown s1 s4 :=
    ((whenPresented_sameShown external_start h2).trans (whenPresented_sameShown external_stop h3)).trans
      (whenPresented_sameShown (external_deposit _) h4)
  exact ((scanTick_oneMove h1).then_shown hrequests).then_shown (sameShown_refl s4)

theorem autonomous_oneMove {s t : State} (h : autonomous s = .next t) : OneMove s t := by
  unfold autonomous at h
  split at h
  · exact scan_oneMove h
  · split at h
    · exact scan_oneMove h
    · cases h
      exact .inl (resumeHeld_sameButCalls 0 s).sameShown

/-- A step that is no reset, from the state with its line taken off the script. -/
theorem step_oneMove {s t : State} (hn : resets s = false) (h : step s = .next t) :
    ∃ es : List Event, OneMove { s with script := es } t := by
  cases hsc : s.script with
  | nil => exact ⟨s.script, autonomous_oneMove (by rwa [step_script_nil hsc] at h)⟩
  | cons e es =>
    rw [step_script_cons hsc] at h
    simp only [resets, hsc] at hn
    refine ⟨es, ?_⟩
    cases e with
    | scan => exact scan_oneMove h
    | request x f => exact .inl (runWord_sameShown (fun _ => decode_x_external) h)
    | call d c => exact .inl (runWord_sameShown (fun _ => decode_d_external) h)
    | text c => exact .inl (runWord_sameShown (fun _ => decode_p_external) h)
    | resume k => cases h; exact .inl (resumeHeld_sameButCalls k _).sameShown
    | withdraw k => cases h; rw [withdrawHeld_eq]; exact .inl (sameShown_refl s)
    | reset => cases hn
    | tick p y => exact tick_oneMove hn h
    | bringUp b =>
      rcases bringUp_cases Config.hardware b { s with script := es } with ⟨k, _, e⟩ | ⟨hb, _, _⟩ | ⟨hb, _, _⟩
      · rw [perform, e] at h; cases h; exact .inl (sameShown_refl s)
      · simp [hb] at hn
      · simp [hb] at hn
    | release => cases h; unfold releaseAtHalt; split <;> exact .inl (sameShown_refl s)

end Sys2Proof.Machine
end

section
/-! The row committed last (70_reset_and_hazards.md rule R255, second half). -/

namespace Sys2Proof.Machine

theorem commitRow_eq_last {s t : State} {last : Option (BitVec 3)} (h : t.latch = true → s.latch = true) :
    commitRow s t last = last := by
  have hrise : ¬ (s.latch = false ∧ t.latch = true) := fun ⟨hs, ht⟩ => by simp [h ht] at hs
  rw [commitRow, if_neg hrise]

theorem CommittedInv.of_sameShown {s t : State} {last : Option (BitVec 3)} (hc : CommittedInv s last)
    (h : SameShown s t) : CommittedInv t last := by
  obtain ⟨_, _, ha, _, hblank, hrow, hph⟩ := h
  obtain ⟨hcurrent, hselected⟩ := hc
  refine ⟨fun hp => ?_, fun hsome hlit => ?_⟩
  · rcases hph with e | e
    · rw [e] at hp; rw [hcurrent hp, hrow]
    · simp [e] at hp
  · rw [hselected hsome (hblank.symm.trans hlit), ha]

/-- LATCH_ON commits the current row, BLANK_OFF shows it, and from there to the next BLANK_ON nothing moves `A`. -/
theorem exec_microOp_keeps_committedInv {s t : State} {last : Option (BitVec 3)} (hi : ScanInv s)
    (hc : CommittedInv s last) (h : exec (microOp s.ph) s = .next t) : CommittedInv t (commitRow s t last) := by
  obtain ⟨_, _, _, _, hlatch, hblank, ha⟩ := scanInv_iff.1 hi
  obtain ⟨hrow, hshown⟩ := hc
  cases hp : s.ph <;> rw [hp, microOp] at h <;>
    simp only [hp, reduceCtorEq, or_self, or_true, or_false, forall_const, IsEmpty.forall_iff, iff_true, iff_false,
      Bool.not_eq_true] at hlatch hblank hrow ha
  case latchOn =>
    cases h
    simp [CommittedInv, commitRow, hlatch, hblank]
  case latchOff =>
    cases h
    rw [commitRow_eq_last (by simp)]
    simp [CommittedInv, hrow, hblank]
  case blankOff =>
    cases h
    rw [commitRow_eq_last (by simp)]
    simp [CommittedInv, hrow, ha]
  case select | blankOn =>
    cases h
    rw [commitRow_eq_last (by simp)]
    simp [CommittedInv, hblank]
  case idle =>
    cases h
    rw [commitRow_eq_last (by exact id)]
    exact ⟨by simp [hp], hshown⟩
  case check | take | shiftClkl =>
    cases h
    rw [commitRow_eq_last (by split <;> exact id)]
    split <;> exact ⟨by simp, hshown⟩
  all_goals
    cases h
    rw [commitRow_eq_last (by exact id)]
    exact ⟨by simp, hshown⟩

theorem OneMove.keeps_committedInv {s t : State} {last : Option (BitVec 3)} (hi : ScanInv s)
    (hc : CommittedInv s last) (h : OneMove s t) : CommittedInv t (commitRow s t last) := by
  rcases h with h | ⟨u, hu, h⟩
  · rw [commitRow_eq_last (fun ht => h.latch_eq.symm.trans ht)]
    exact hc.of_sameShown h
  · rw [show commitRow s t last = commitRow s u last by rw [commitRow, commitRow, h.latch_eq]]
    exact (exec_microOp_keeps_committedInv hi hc hu).of_sameShown h

/-- Settles O40: the display sees one micro-operation at most, and each keeps the row committed and the row selected
together. -/
theorem selectedRowIsTheCommittedRow : Obligations.SelectedRowIsTheCommittedRow := by
  intro s t last hi hc hn h
  obtain ⟨es, hmove⟩ := step_oneMove hn h
  obtain ⟨hscan, _⟩ := blockInv_iff.1 hi
  exact hmove.keeps_committedInv (s := { s with script := es }) hscan hc

end Sys2Proof.Machine
end

section
/-! The brackets of the pins (70_reset_and_hazards.md rule R233, 30_encoding.md rule R75). -/

namespace Sys2Proof.Machine

/-- A micro-operation that moves `A` or `LATCH` stands between BLANK_ON and BLANK_OFF, one that moves `DATA` outside the
clock pulse. -/
theorem exec_microOp_brackets {s t : State} (hi : ScanInv s) (h : exec (microOp s.ph) s = .next t) :
    (t.a ≠ s.a ∨ t.latch ≠ s.latch → s.blank = true ∧ t.blank = true) ∧
      (t.data ≠ s.data → s.clk = false ∧ t.clk = false) := by
  obtain ⟨_, _, _, hclk, _, hblank, _⟩ := scanInv_iff.1 hi
  cases hp : s.ph <;> rw [hp, microOp] at h <;>
    simp only [hp, reduceCtorEq, or_self, or_true, or_false, iff_true, iff_false, Bool.not_eq_true]
      at hclk hblank
  case select | latchOn | latchOff => cases h; simp [hblank]
  case shiftData => cases h; simp [hclk]
  case check | take | shiftClkl => cases h; split <;> simp
  all_goals cases h; simp

/-- DATA, CLK up, CLK down: the three steps of the bit at which the serializer stands. -/
theorem scan_pulse {s : State} (hp : s.ph = .shiftData) : ∃ t u v : State,
    scan s = .next t ∧ scan t = .next u ∧ scan u = .next v ∧ t.data = rowCell (rowOf s.act s.row) s.bitcnt ∧
      t.clk = s.clk ∧ u.data = t.data ∧ u.clk = true ∧ v.data = t.data ∧ v.clk = false := by
  by_cases hlast : s.bitcnt = lastBit
  · exact ⟨_, _, _, scan_shiftData hp, scan_shiftClkh rfl, scan_shiftClkl_last rfl hlast, rfl, rfl, rfl, rfl, rfl, rfl⟩
  · exact ⟨_, _, _, scan_shiftData hp, scan_shiftClkh rfl, scan_shiftClkl_more rfl hlast, rfl, rfl, rfl, rfl, rfl, rfl⟩

/-- Settles O41: the display sees one micro-operation at most; and a bit's three steps, whose level is the cell's. -/
theorem pinsMoveOnlyInsideTheirBrackets : Obligations.PinsMoveOnlyInsideTheirBrackets := by
  refine ⟨fun s t hi hn h => ?_, fun s r b i hp hrow hbit => ?_⟩
  · obtain ⟨es, hmove⟩ := step_oneMove hn h
    obtain ⟨hscan, _⟩ := blockInv_iff.1 hi
    rcases hmove with ⟨hdata, _, ha, hlatch, _⟩ | ⟨u, hu, hdata, hclk, ha, hlatch, hblank, _⟩
    · simp [ha, hlatch, hdata]
    · rw [ha, hlatch, hblank, hdata, hclk]
      exact exec_microOp_brackets (s := { s with script := es }) hscan hu
  · rw [← rowCell_eq s.act s.row s.bitcnt r b i hrow hbit]
    exact scan_pulse hp

end Sys2Proof.Machine
end

section
/-! The Frame on display (70_reset_and_hazards.md rule R253): only whole Frames enter the slot, and only a whole Frame leaves
it for `ACT`. -/

namespace Sys2Proof.Machine

/-- `ACT` is the pattern or a Frame of `ins`, and so is every Frame that waits. -/
structure FramesAmong (ins : List Frame) (s : State) : Prop where
  act : s.act = Config.hardware.initFrame ∨ s.act ∈ ins
  slot : ∀ f ∈ waiting s, f ∈ ins

theorem AfterReset.framesAmong {s : State} (h : AfterReset s) (ins : List Frame) : FramesAmong ins s :=
  ⟨.inl h.act, by simp [waiting_empty h.rdy]⟩

/-- A move of the slot keeps it, the Frame that enters counted in: what waits afterwards waited or has entered, and what left
waited. -/
theorem FramesAmong.of_slotMove {ins : List Frame} {s t : State} {i o : Option Frame} (h : FramesAmong ins s)
    (hm : SlotMove s t i o) : FramesAmong (ins ++ i.toList) t := by
  have hflow := hm.waiting_append
  have hfrom : ∀ f ∈ o.toList ++ waiting t, f ∈ ins ++ i.toList := fun f hf => by
    rw [← hflow, List.mem_append] at hf
    exact List.mem_append.2 (hf.imp_left (h.slot f))
  refine ⟨?_, fun f hf => hfrom f (List.mem_append_right _ hf)⟩
  rw [hm.act_eq]
  cases o with
  | none => exact h.act.imp_right (List.mem_append_left _)
  | some f => exact .inr (hfrom f (by simp))

theorem step_keeps_framesAmong {ins : List Frame} {s t : State} (hv : ViewInv s) (h : FramesAmong ins s)
    (hstep : step s = .next t) : FramesAmong (ins ++ (incoming s).toList) t := by
  cases hn : resets s with
  | true => exact (step_afterReset hn hstep).framesAmong _
  | false => exact h.of_slotMove (step_slotMove hv hstep hn)

theorem reaches_keeps_framesAmong {ins : List Frame} {s t : State} (hv : ViewInv s) (h : FramesAmong [] s)
    (hrun : Reaches s ins t) : ViewInv t ∧ FramesAmong ins t := by
  induction hrun with
  | start => exact ⟨hv, h⟩
  | more _ hstep ih =>
    obtain ⟨hview, hframes⟩ := ih
    exact ⟨step_keeps_viewInv hview hstep, step_keeps_framesAmong hview hframes hstep⟩

/-- Settles O45, by induction on the run: the slot has nothing but deposited Frames to give to `ACT`. -/
theorem activeFrameIsThePatternOrADepositedFrame : Obligations.ActiveFrameIsThePatternOrADepositedFrame := by
  intro es ins t hrun
  have hreset := afterReset_reset es
  obtain ⟨_, hframes⟩ := reaches_keeps_framesAmong (viewInv_of_oneClock hreset.oneClock) (hreset.framesAmong []) hrun
  exact hframes.act

end Sys2Proof.Machine
end

section
/-! Holds (70_reset_and_hazards.md rule R240): the tick in which a micro-operation executes, and those that wait out its
hold. -/

namespace Sys2Proof.Machine

variable {c : Config} {s t : State}

theorem quietTicks_succ_of_tick {u : State} (h : tick c quietPorts SyncPass.oneClock s = .next u) (k : Nat) :
    quietTicks c (k + 1) s = quietTicks c k u := by
  rw [quietTicks, h, andThen_next]

/-- With one clock a tick in which the scanner goes from `s` to `t` ends in `t`: there is nothing to settle. -/
theorem tick_quiet_of_scanTick (ho : OneClock t) (h : scanTick c s = .next t) :
    tick c quietPorts SyncPass.oneClock s = .next t := by
  rw [tick_quiet_oneClock, h, andThen_next]
  exact congrArg _ (settleViews_of_oneClock s ho)

/-- The tick of a micro-operation that is due. -/
theorem tick_quiet_of_scan (ho : OneClock s) (hp : s.ph ≠ .idle) (htmr : s.tmr = 0) (h : scan s = .next t) :
    tick c quietPorts SyncPass.oneClock s = .next { t with tmr := hold c s.ph - 1 } :=
  have hot : OneClock t := exec_oneClock ((scan_eq s).symm.trans h) ho
  tick_quiet_of_scanTick (t := { t with tmr := hold c s.ph - 1 }) hot (scanTick_of_scan c ho hp htmr h)

/-- A hold goes on: the scanner is not in IDLE, where there is no hold, and no stop ends it (43_row_scan_driver.md rule
R158). -/
def Holding (s : State) : Prop := s.ph ≠ .idle ∧ ¬ (s.ph = .check ∧ s.run = .stopping)

theorem tick_quiet_holding (ho : OneClock s) (hh : Holding s) (n : Nat) :
    tick c quietPorts SyncPass.oneClock { s with tmr := n + 1 } = .next { s with tmr := n } := by
  obtain ⟨hidle, hstop⟩ := hh
  have hwait : State.due { s with tmr := n + 1 } = false := by simpa [State.due] using hstop
  exact tick_quiet_of_scanTick (t := { s with tmr := n }) ho (scanTick_waiting c hidle hwait)

/-- In a hold the timer counts down and nothing else happens. -/
theorem quietTicks_holding (ho : OneClock s) (hh : Holding s) (n k : Nat) :
    quietTicks c k { s with tmr := n + k } = .next { s with tmr := n } := by
  induction k with
  | zero => rfl
  | succ k ih => rw [← Nat.add_assoc, quietTicks_succ_of_tick (tick_quiet_holding ho hh (n + k)), ih]

/-- A hold of more than one tick is followed neither by IDLE nor by a CHECK that halts, a stopped DWELL apart. -/
theorem holding_of_hold (h : exec (microOp s.ph) s = .next t) (hlong : 1 < hold c s.ph) (hidle : s.ph ≠ .idle)
    (hdwell : s.ph = .dwell → s.run ≠ .stopping) : Holding t := by
  cases hp : s.ph <;> rw [hp] at h hlong hidle hdwell
  case idle => exact absurd rfl hidle
  case check | take | advance | blankOff => exact absurd hlong (Nat.lt_irrefl 1)
  case shiftClkl => cases h; split <;> simp [Holding]
  case dwell => cases h; simpa [Holding] using hdwell
  all_goals cases h; simp [Holding]

/-- `k` ticks after a micro-operation began, of the ticks of its hold (R240). -/
theorem quietTicks_of_exec (ho : OneClock s) (htmr : s.tmr = 0) (hidle : s.ph ≠ .idle)
    (hdwell : s.ph = .dwell → s.run ≠ .stopping) (h : exec (microOp s.ph) s = .next t) {k : Nat} (hpos : 1 ≤ k)
    (hk : k ≤ hold c s.ph) : quietTicks c k s = .next { t with tmr := hold c s.ph - k } := by
  obtain ⟨m, rfl⟩ : ∃ m, k = m + 1 := ⟨k - 1, by omega⟩
  rw [quietTicks_succ_of_tick (tick_quiet_of_scan ho hidle htmr ((scan_eq s).trans h))]
  rcases Nat.eq_zero_or_pos m with rfl | hm
  · rfl
  · rw [show hold c s.ph - 1 = hold c s.ph - (m + 1) + m by omega]
    exact quietTicks_holding (exec_oneClock h ho) (holding_of_hold (c := c) h (by omega) hidle hdwell) _ m

/-- Settles O56: the table as it is written, and the ticks of one hold. -/
theorem nextMicroOperationComesAfterTheHold : Obligations.NextMicroOperationComesAfterTheHold :=
  ⟨fun _ => ⟨rfl, rfl, rfl, rfl, rfl, rfl, rfl, rfl, rfl, rfl, rfl, rfl⟩,
    fun _ _ _ _ ho htmr hidle hdwell h _ hpos hk => quietTicks_of_exec ho htmr hidle hdwell h hpos hk⟩

end Sys2Proof.Machine
end

section
/-! The length of a scan cycle (70_reset_and_hazards.md rule R241): the holds of its 441 micro-operations, added up from the
last to the first. -/

namespace Sys2Proof.Machine

/-- Every hold is at least one tick (00_scope.md rule R5). -/
theorem one_le_hold {c : Config} (hc : c.wf = true) (p : Phase) : 1 ≤ hold c p := by
  simp only [Config.wf, Bool.and_eq_true, decide_eq_true_eq] at hc
  cases p <;> simp only [hold] <;> omega

/-- The next `k` micro-operations last `m` ticks: these end where those end. -/
def Lasts (c : Config) (k m : Nat) (s : State) : Prop := quietTicks c m s = scanRun k s

/-- One clock, a scanner that runs and is due: what the whole cycle keeps. -/
def RunningDue (s : State) : Prop := OneClock s ∧ s.run = .running ∧ s.tmr = 0

theorem quietTicks_add_of_next {c : Config} {m : Nat} {s t : State} (h : quietTicks c m s = .next t) (n : Nat) :
    quietTicks c (m + n) s = quietTicks c n t := by
  induction m generalizing s with
  | zero => cases h; rw [Nat.zero_add]
  | succ m ih =>
    rw [quietTicks] at h
    obtain ⟨u, hu, h⟩ := andThen_eq_next.1 h
    rw [Nat.succ_add, quietTicks_succ_of_tick hu, ih h]

section
variable {c : Config} {s t : State}

/-- A running scanner's micro-operation with its hold. -/
theorem quietTicks_hold (hc : c.wf = true) (hd : RunningDue s) (hidle : s.ph ≠ .idle) (h : scan s = .next t) :
    quietTicks c (hold c s.ph) s = .next t := by
  obtain ⟨ho, hrun, htmr⟩ := hd
  rw [scan_eq] at h
  obtain ⟨htmr', _⟩ := exec_others_kept h
  rw [quietTicks_of_exec ho htmr hidle (fun _ => by simp [hrun]) h (one_le_hold hc s.ph) le_rfl, Nat.sub_self,
    ← htmr, ← htmr']

/-- One more micro-operation in front, with its hold. -/
theorem lasts_succ {k m n : Nat} (p : Phase) (hc : c.wf = true) (hd : RunningDue s) (hp : s.ph = p)
    (hidle : p ≠ .idle) (h : scan s = .next t) (hn : hold c p + m = n) (ht : Lasts c k m t) : Lasts c (k + 1) n s := by
  rw [← hp] at hn hidle
  rw [Lasts, ← hn, quietTicks_add_of_next (quietTicks_hold hc hd hidle h), scanRun_succ_of_scan h, ht]

/-- The ticks of one bit. -/
def bitTicks (c : Config) : Nat := c.tSetup + c.tClkh + c.tClkl

/-- The ticks from BLANK_ON to the end of the dwell. -/
def commitTicks (c : Config) : Nat := c.tBlank + c.tSel + c.tLatch + c.tRel + 1 + c.dwell

/-- From BLANK_ON to the next CHECK. -/
theorem lasts_commit (hc : c.wf = true) (hd : RunningDue s) (hp : s.ph = .blankOn) : Lasts c 6 (commitTicks c) s :=
  lasts_succ .blankOn hc hd hp (by simp) (scan_blankOn hp) (by simp [hold, commitTicks, Nat.add_assoc]) <|
  lasts_succ .select hc hd rfl (by simp) (scan_select rfl) rfl <|
  lasts_succ .latchOn hc hd rfl (by simp) (scan_latchOn rfl) rfl <|
  lasts_succ .latchOff hc hd rfl (by simp) (scan_latchOff rfl) rfl <|
  lasts_succ .blankOff hc hd rfl (by simp) (scan_blankOff rfl) rfl <|
  lasts_succ .dwell (m := 0) hc hd rfl (by simp) (scan_dwell rfl) rfl rfl

/-- With `n` bits of the row left after the one whose `CLK` is to fall. -/
theorem lasts_shiftClkl {n : Nat} (hc : c.wf = true) (hd : RunningDue s) (hp : s.ph = .shiftClkl)
    (hn : s.bitcnt.toNat + n = 143) : Lasts c (3 * n + 7) (c.tClkl + n * bitTicks c + commitTicks c) s := by
  induction n generalizing s with
  | zero =>
    have hlast : s.bitcnt = lastBit := BitVec.eq_of_toNat_eq hn
    exact lasts_succ .shiftClkl hc hd hp (by simp) (scan_shiftClkl_last hp hlast) (by simp [hold])
      (lasts_commit hc hd rfl)
  | succ n ih =>
    have hmore : s.bitcnt ≠ lastBit := fun e => by simp [e, lastBit] at hn
    have hnext : (s.bitcnt + 1).toNat + n = 143 := by bv_omega
    exact lasts_succ .shiftClkl hc hd hp (by simp) (scan_shiftClkl_more hp hmore)
        (by simp only [hold, bitTicks, Nat.succ_mul]; omega) <|
      lasts_succ .shiftData hc hd rfl (by simp) (scan_shiftData rfl) rfl <|
      lasts_succ .shiftClkh hc hd rfl (by simp) (scan_shiftClkh rfl) rfl <|
      ih hd rfl hnext

/-- A whole row of 144 bits, and its commit. -/
theorem lasts_row (hc : c.wf = true) (hd : RunningDue s) (hp : s.ph = .shiftData) (hbit : s.bitcnt = 0) :
    Lasts c 438 (144 * bitTicks c + commitTicks c) s :=
  lasts_succ .shiftData hc hd hp (by simp) (scan_shiftData hp) (by simp only [hold, bitTicks]; omega) <|
  lasts_succ .shiftClkh hc hd rfl (by simp) (scan_shiftClkh rfl) rfl <|
  lasts_shiftClkl (n := 143) hc hd rfl (by simp [hbit])

/-- A whole cycle, from CHECK to CHECK. -/
theorem lasts_cycle (hc : c.wf = true) (hd : RunningDue s) (hp : s.ph = .check) :
    Lasts c 441 (3 + (144 * bitTicks c + commitTicks c)) s := by
  obtain ⟨ho, hrun, htmr⟩ := hd
  have hchecked : RunningDue { s with ph := .take } := ⟨ho, hrun, htmr⟩
  have htaken : RunningDue (taken s) := ⟨⟨rfl, rfl⟩, hrun, htmr⟩
  have hadvance := lasts_succ .advance hc htaken rfl (by simp) (scan_advance rfl) rfl (lasts_row hc htaken rfl rfl)
  have htake := lasts_succ .take hc hchecked rfl (by simp) (scan_take_oneClock rfl ho) rfl hadvance
  exact lasts_succ .check hc ⟨ho, hrun, htmr⟩ hp (by simp) (scan_check_running hp (by simp [hrun]))
    (by simp only [hold]; omega) htake

end

/-- Settles O58: the formula is the sum of the holds. -/
theorem scanCycleLastsItsTicks : Obligations.ScanCycleLastsItsTicks := by
  refine ⟨rfl, fun c s hc ho hp hrun htmr => ?_⟩
  have hcycle := lasts_cycle hc ⟨ho, hrun, htmr⟩ hp
  rw [← hcycle]
  simp only [bitTicks, commitTicks, Nat.add_assoc]

end Sys2Proof.Machine
end

section
/-! The host's lines (70_reset_and_hazards.md rules R226, R227, 60_exceptions.md rule R193). -/

namespace Sys2Proof.Machine

variable {c : Config} {b : BringUp}

/-- An acquisition refused: the block is not touched. -/
theorem bringUp_refused {k : Nat} (h : b.refused = some k) (s : State) : bringUp c b s = .next { s with
    linesHeld := [], released := (b.order.take k).reverse, hostResult := some (.error .initializationFailure) } := by
  rcases bringUp_cases c b s with ⟨j, hj, e⟩ | ⟨hn, _, _⟩ | ⟨hn, _, _⟩
  · cases h.symm.trans hj
    exact e
  · simp [h] at hn
  · simp [h] at hn

/-- The scan loop does not start: the block stays in reset state (R193). -/
theorem bringUp_notStarted (h : b.refused = none) (hstart : b.taskStarts = false) (s : State) :
    bringUp c b s = .next { State.resetBlock c s with
      linesHeld := [], released := b.order.reverse, hostResult := some (.error .taskStartFailure) } := by
  rcases bringUp_cases c b s with ⟨k, hk, _⟩ | ⟨_, _, e⟩ | ⟨_, ht, _⟩
  · simp [h] at hk
  · exact e
  · simp [hstart] at ht

theorem bringUp_completed (h : b.refused = none) (hstart : b.taskStarts = true) (s : State) :
    bringUp c b s = .next { State.resetBlock c s with
      run := .running, ph := .check, linesHeld := b.order.reverse, hostResult := some .success } := by
  rcases bringUp_cases c b s with ⟨k, hk, _⟩ | ⟨_, ht, _⟩ | ⟨_, _, e⟩
  · simp [h] at hk
  · simp [hstart] at ht
  · exact e

theorem BringUp.wf_order_length (h : b.wf = true) : b.order.length = 7 := by
  simp only [BringUp.wf, Bool.and_eq_true, beq_iff_eq] at h
  obtain ⟨⟨hlength, _⟩, _⟩ := h
  exact hlength

/-- Settles O60: the three outcomes of a bring-up, and a release in Halted and elsewhere. -/
theorem linesAreReleasedInReverseOrderOfAcquisition : Obligations.LinesAreReleasedInReverseOrderOfAcquisition := by
  intro plan s es hwf
  refine ⟨fun hsc k hk => ?_, fun hsc hn hstart => ?_, fun hsc hn hstart => ⟨?_, ?_⟩,
    fun hsc => ⟨fun hrun => ?_, fun hrun => ?_⟩⟩
  · rw [step_script_cons hsc, perform, bringUp_refused hk]
  · rw [step_script_cons hsc, perform, bringUp_notStarted hn hstart]
    rfl
  · rw [List.length_reverse, BringUp.wf_order_length hwf]
  · rw [step_script_cons hsc, perform, bringUp_completed hn hstart]
    rfl
  · rw [step_script_cons hsc, perform, releaseAtHalt, if_pos hrun]
    rfl
  · rw [step_script_cons hsc, perform, releaseAtHalt, if_neg hrun]

end Sys2Proof.Machine
end
